-- ==== Sys2Proof/Word.lean ====
section
/-! DEFINITION. Word types of the GH-2216: bytes of the station link and the store, words of the sample port. -/

namespace Sys2Proof

/-- A byte of the station link or of the serial store (R138, R161). -/
abbrev Byte := BitVec 8

/-- A word of the sample port, sent as two line symbols (R41). -/
abbrev Word16 := BitVec 16

end Sys2Proof
end

