-- ==== Sys2Proof/Syntax.lean ====
section
/-! DEFINITION. The commands and events of the GH-2216: one constructor per row of spec/opcode_table.json. -/

namespace Sys2Proof

/-- A word as the line decoder of the sample port delivers it (R41): good with its value, or bad without one.
`Machine.wordOfSymbols` makes these of pairs of symbols. -/
inductive LineWord where
  | good (value : Word16)
  | bad
  deriving DecidableEq, Repr

/-- A complete byte on the receive wire of the station link (R138): good, or with a framing error and no value.
`Machine.receiveFrom` makes these of the sampled levels of the wire. -/
inductive LineByte where
  | good (value : Byte)
  | framingError
  deriving DecidableEq, Repr

/-- The step of R163 a store write or erase stands in. -/
inductive StorePhase where
  /-- Step 1, polling the status before the operation. -/
  | busyWait
  /-- Step 2, the write-enable transaction being sent. -/
  | writeEnable
  /-- Step 3, the page program or sector erase being sent. -/
  | program
  /-- Step 4, polling the status after the operation. -/
  | completion
  deriving DecidableEq, Repr

/-- One constructor per row of the opcode table. A station command carries the TAG and the payload of its frame
(R172 gives each payload's layout); an event carries what arrives with it. -/
inductive Instr where
  /-- PING (R149). -/
  | ping (tag : Byte) (payload : List Byte)
  /-- READ_STATUS (R159). -/
  | readStatus (tag : Byte) (payload : List Byte)
  /-- CLEAR_STATUS (R157). -/
  | clearStatus (tag : Byte) (payload : List Byte)
  /-- SET_NOTICES (R158). -/
  | setNotices (tag : Byte) (payload : List Byte)
  /-- WARM_RESTART (R160). -/
  | warmRestart (tag : Byte) (payload : List Byte)
  /-- LOAD_TABLE (R150). -/
  | loadTable (tag : Byte) (payload : List Byte)
  /-- READ_TABLE (R151). -/
  | readTable (tag : Byte) (payload : List Byte)
  /-- START (R23). -/
  | start (tag : Byte) (payload : List Byte)
  /-- STOP (R25). -/
  | stop (tag : Byte) (payload : List Byte)
  /-- HOLD (R26). -/
  | hold (tag : Byte) (payload : List Byte)
  /-- RESUME (R26). -/
  | resume (tag : Byte) (payload : List Byte)
  /-- READ_CAMPAIGN (R37). -/
  | readCampaign (tag : Byte) (payload : List Byte)
  /-- LASER_STOP (R11). -/
  | laserStop (tag : Byte) (payload : List Byte)
  /-- LASER_RELEASE (R12). -/
  | laserRelease (tag : Byte) (payload : List Byte)
  /-- MEASURE_HEAD (R17). -/
  | measureHead (tag : Byte) (payload : List Byte)
  /-- READ_LASER (R13). -/
  | readLaser (tag : Byte) (payload : List Byte)
  /-- TRACK_CLEAR (R134). -/
  | trackClear (tag : Byte) (payload : List Byte)
  /-- READ_TRACKS (R135). -/
  | readTracks (tag : Byte) (payload : List Byte)
  /-- STORE_READ (R162). -/
  | storeRead (tag : Byte) (payload : List Byte)
  /-- STORE_WRITE (R163). -/
  | storeWrite (tag : Byte) (payload : List Byte)
  /-- STORE_ERASE (R164). -/
  | storeErase (tag : Byte) (payload : List Byte)
  /-- STORE_RELOAD (R169). -/
  | storeReload (tag : Byte) (payload : List Byte)
  /-- UNKNOWN_KIND_COMMAND (R146): a frame whose KIND names no command. -/
  | unknownKindCommand (kind : Byte) (tag : Byte) (payload : List Byte)
  /-- DEVICE_RESET (R170), with what the part finds on its inputs: the BAUD straps, the head line, the interlock. -/
  | deviceReset (straps : BitVec 2) (headPresent interlockOpen : Bool)
  /-- PERIOD_END (R3). -/
  | periodEnd
  /-- TRIG_PULSE_END (R4). -/
  | trigPulseEnd
  /-- FIRE_PULSE_END (R4). -/
  | firePulseEnd
  /-- INTERLOCK_CHANGE (R7): the input opens or closes. -/
  | interlockChange (isOpen : Bool)
  /-- PRESENCE_CHANGE (R14): appear (true) or vanish (false). -/
  | presenceChange (appear : Bool)
  /-- CONVERSION_COMPLETE (R16), with the measured resistance in ohms. -/
  | conversionComplete (ohms : Nat)
  /-- WORD_EVENT (R41). -/
  | wordEvent (word : LineWord)
  /-- RECORD_TIMEOUT (R55). -/
  | recordTimeout
  /-- PROFILE_COMPLETE (R77). -/
  | profileComplete
  /-- START_WAIT_END (R139). -/
  | startWaitEnd
  /-- BYTE_EVENT (R141). -/
  | byteEvent (byte : LineByte)
  /-- GAP_TIMEOUT (R142). -/
  | gapTimeout
  /-- END_OF_FRAME (R153). -/
  | endOfFrame
  /-- STORE_READ_COMPLETE (R162). -/
  | storeReadComplete
  /-- STORE_WRITE_COMPLETE (R163). -/
  | storeWriteComplete
  /-- STORE_WRITE_TIMEOUT (R163), with the step in which the limit passed. -/
  | storeWriteTimeout (phase : StorePhase)
  /-- STORE_ERASE_COMPLETE (R164). -/
  | storeEraseComplete
  /-- STORE_ERASE_TIMEOUT (R164), with the step in which the limit passed. -/
  | storeEraseTimeout (phase : StorePhase)
  /-- LOADER_BUSY_TIMEOUT (R166). -/
  | loaderBusyTimeout
  /-- BURST_APPLY (R167). -/
  | burstApply
  /-- LOADER_END (R168). -/
  | loaderEnd
  deriving DecidableEq, Repr

end Sys2Proof
end

