-- ==== Sys2Proof/WellFormed.lean ====
section
/-! DEFINITION. Which terms of Instr can stand for something that crosses the part's interfaces. -/

namespace Sys2Proof

/-- KIND values that name a command (R172). -/
def commandKind (kind : Byte) : Bool := 0x01 ≤ kind.toNat && kind.toNat ≤ 0x16

/-- Outbound KIND values REPLY, NOTICE, REPORT and PROFILE (spec/10_formats.md, Station frame). -/
def outboundKind (kind : Byte) : Bool := 0x81 ≤ kind.toNat && kind.toNat ≤ 0x84

/-- A payload fits a frame: LEN is at most 2,100, of which KIND and TAG take two (R141). -/
def payloadFits (payload : List Byte) : Bool := payload.length ≤ 2098

/-- The rows whose operands a frame or an event of the part can carry. -/
def Instr.wellFormed : Instr → Bool
  | .ping _ p | .readStatus _ p | .clearStatus _ p | .setNotices _ p | .warmRestart _ p | .loadTable _ p
  | .readTable _ p | .start _ p | .stop _ p | .hold _ p | .resume _ p | .readCampaign _ p | .laserStop _ p
  | .laserRelease _ p | .measureHead _ p | .readLaser _ p | .trackClear _ p | .readTracks _ p | .storeRead _ p
  | .storeWrite _ p | .storeErase _ p | .storeReload _ p => payloadFits p
  | .unknownKindCommand kind _ p => payloadFits p && !commandKind kind && !outboundKind kind
  | .deviceReset _ _ _ | .periodEnd | .trigPulseEnd | .firePulseEnd | .interlockChange _ | .presenceChange _
  | .conversionComplete _ | .wordEvent _ | .recordTimeout | .profileComplete | .startWaitEnd | .byteEvent _
  | .gapTimeout | .endOfFrame | .storeReadComplete | .storeWriteComplete | .storeWriteTimeout _
  | .storeEraseComplete | .storeEraseTimeout _ | .loaderBusyTimeout | .burstApply | .loaderEnd => true

end Sys2Proof
end

