-- ==== Sys2Proof/Decode.lean ====
section
/-! DEFINITION. Reading a command from a word of opcode-table bits. The table gives no row any bits. -/

namespace Sys2Proof

/-- The command a word of the opcode table's bits spells. spec/opcode_table.json gives no row a pattern or fields
(spec/98_reader.md: n_rows_with_fixed 0, n_rows_with_fields 0), so no word spells a command (log 21). -/
def decodeTableWord (_nbits _w : Nat) : Option Instr := none

end Sys2Proof
end

