-- ==== Sys2Proof/Config.lean ====
section
/-! DEFINITION. What the manual fixes once: durations and limits as constants, and the free values it leaves open. -/

namespace Sys2Proof.Config

/-- Line rate in bit/s for each value of BAUD[1:0] (R138). -/
def lineRate (straps : BitVec 2) : Nat :=
  if straps = 0 then 115200 else if straps = 1 then 460800 else if straps = 2 then 921600 else 3000000

/-- Bit times of one byte, and byte times of mark that end START_WAIT (R138, R139). -/
def bitsPerByte : Nat := 10
def startWaitByteTimes : Nat := 20

/-- Gap between bytes of a frame, in µs, above which the frame is abandoned (R142). -/
def gapLimitUs : Nat := 2000

/-- Length of the TRIG pulse in µs (R4). -/
def trigPulseUs : Nat := 1

/-- Time from the TRIG pulse to the record timeout, in µs (R55). -/
def recordTimeoutUs : Nat := 1000

/-- Time of a head conversion in µs (R16). -/
def conversionUs : Nat := 1500

/-- Shortest and longest time of processing in µs (R76). -/
def processingUs (dark sort : Bool) : Nat × Nat :=
  (50, if dark then 1000 else if sort then 4000 else 2000)

/-- Limits of a store write and of a store erase, and of the loader's busy wait, in ms (R163, R164, R166). -/
def storeWriteLimitMs : Nat := 25
def storeEraseLimitMs : Nat := 400
def loaderBusyLimitMs : Nat := 400

/-- Largest bucket level (R5). -/
def bucketMax : Nat := 16777215

/-- Serial clock of the store in Hz, and the time of one byte on it in ns (R161). -/
def storeClockHz : Nat := 5000000
def storeByteNs : Nat := 1600

/-- Bytes of the serial store, of a page and of a sector (R161). -/
def storeSize : Nat := 65536
def pageSize : Nat := 256
def sectorSize : Nat := 4096

/-- FREE VALUE (log 9). The byte that a store which is still busy returns to a data read: R162 says only that it is not
the stored data. The argument numbers the byte read. -/
opaque busyStoreByte : Nat → Byte

/-- FREE VALUE (log 12). The three bytes that a store which is still busy returns to an identification read: R166 runs the
read and the spec does not say what such a store answers. The argument numbers the read. -/
opaque busyIdent : Nat → BitVec 24

/-- FREE VALUE (log 28). The seven upper bits of the status byte: R161 gives the lowest bit alone. The argument numbers the
read. -/
opaque statusBits : Nat → BitVec 7

/-- FREE VALUE (log 10). Whether a byte keeps its old value when its programming or erasing was cut off by a reset, or
was left to the store by a timeout (R161, R163: a mixture of old and new bytes). The argument numbers the byte. -/
opaque cutKeepsOld : Nat → Bool

/-- FREE VALUE (log 14). The line code of the sample port, which the spec does not give (R41): a numbering of the 1,024
symbols in which symbol b below 256 is a valid one of byte b. -/
opaque symbolNumber : Equiv.Perm (BitVec 10)

/-- FREE VALUE (log 14). The byte of which a symbol numbered from 256 on is a valid one, none when it is a code violation
(R41: every byte has a set of valid symbols). -/
opaque otherSymbol : BitVec 10 → Option Byte

end Sys2Proof.Config
end

