-- ==== Sys2Proof/Machine/State.lean ====
section
/-! DEFINITION. The state of the GH-2216, block by block, the reasons a step can stop, and the state after reset.
A quantity carries its range in its docstring where the type does not. -/

namespace Sys2Proof.Machine

/-! ### Why a step can stop -/

/-- Faults. The spec describes no behaviour that stops the part, so no command raises one and there is no constructor.
Safe. -/
inductive Fault where
  deriving DecidableEq, Repr

/-- Refusals. -/
inductive Refusal where
  /-- Raised by an arm of exec whose row has no meaning yet, with the row's mnemonic. No arm raises it now. Safe. -/
  | notModelled (mnemonic : String)
  deriving DecidableEq, Repr

/-! ### Firing the laser -/

/-- The CADENCE entry (R1, R2): slot period 200..65535 µs, fire width 1..20 µs, run. -/
structure Cadence where
  slotPeriod : Nat
  fireWidth : Nat
  run : Bool
  deriving DecidableEq, Repr

/-- Generator state (R1, R3). RUNNING and ENDING have a period in progress, whose length in µs they carry. -/
inductive GenState where
  | stopped
  | running (period : Nat)
  | ending (period : Nat)
  deriving DecidableEq, Repr

/-- Head state (R15). -/
inductive HeadState where
  | absent
  | unverified
  | measuring
  | verified (code : Fin 8)
  | unreadable
  deriving DecidableEq, Repr

/-- A row of the HEAD table (R18): E_ref and E_max 1..65535 mc, CAP up to 16,777,215 mc, DRAIN 0..65535 mc per tick. -/
structure HeadRow where
  allowed : Bool
  eRef : Nat
  eMax : Nat
  cap : Nat
  drain : Nat
  deriving DecidableEq, Repr

/-! ### Measurement campaigns -/

/-- LIT or DARK (R21). -/
inductive Kind where
  | lit
  | dark
  deriving DecidableEq, Repr

/-- The repeat field (R21). -/
inductive Repeats where
  | once
  | continuous
  deriving DecidableEq, Repr

/-- The settings a bank copies from its campaign's entry when it opens (R24). -/
structure RunSettings where
  kind : Kind
  sort : Bool
  sortLo : Nat
  sortHi : Nat
  sendProfile : Bool
  deriving DecidableEq, Repr

/-- A CAMP entry (R21): the run settings, shots 1..65535, repeat, autostart. -/
structure CampEntry where
  settings : RunSettings
  shots : Nat
  repeats : Repeats
  autostart : Bool
  deriving DecidableEq, Repr

/-- Campaign state (R20). ACTIVE carries the filling bank: bank 2k, or 2k+1 when `odd`. -/
inductive CampState where
  | idle
  | active (odd : Bool)
  | waitBank
  deriving DecidableEq, Repr

/-- Run state of one campaign channel (R20), each count 0..65535. -/
structure Run where
  state : CampState
  held : Bool
  remaining : Nat
  sequence : Nat
  completed : Nat
  deriving DecidableEq, Repr

/-- ARB mode (R29). -/
inductive ArbMode where
  | fixed
  | rotating
  deriving DecidableEq, Repr

/-- The Shot Arbiter (R29, R31): mode, rotating priority list with the highest first, trigger count. -/
structure Arbiter where
  mode : ArbMode
  order : List (Fin 4)
  triggerCount : Byte
  deriving DecidableEq, Repr

/-- The shot-in-flight record (R27). -/
structure Shot where
  campaign : Fin 4
  kind : Kind
  expectedTag : Byte
  target : Fin 8
  abandoned : Bool
  deriving DecidableEq, Repr

/-! ### The sample port -/

/-- Lock state with the run that counts in it (R40, R42): good words in UNLOCKED, bad words in LOCKED. -/
inductive Lock where
  | unlocked (goodRun : Nat)
  | locked (badRun : Nat)
  deriving DecidableEq, Repr

/-- What a record is bound to at its SYNC (R45): no shot, a shot still in flight, or a shot that has ended since. -/
inductive Binding where
  | none
  | inFlight
  | ended
  deriving DecidableEq, Repr

/-- The record in progress (R40, R46): the words taken, SYNC first, a bad word without value; their number is the word
position. -/
structure Record where
  words : List (Option Word16)
  sum : Word16
  corrupt : Bool
  outOfRange : Bool
  bound : Binding
  clips : List Nat
  deriving DecidableEq, Repr

/-- Receiver state of the sample port (R40, R44). -/
inductive PortRx where
  | off
  | settle (count : Nat)
  | hunt
  | record (r : Record)
  deriving DecidableEq, Repr

/-- Outcome of a shot end (R57). -/
inductive ShotOutcome where
  | accepted
  | rejected
  | abandoned
  deriving DecidableEq, Repr

/-- Reason of a shot end (R57); `none` goes with ACCEPTED. -/
inductive ShotReason where
  | none
  | check
  | format
  | fault
  | tag
  | timeout
  | lost
  | stop
  | restart
  deriving DecidableEq, Repr

/-- The last shot end (R57). -/
structure ShotEnd where
  outcome : ShotOutcome
  reason : ShotReason
  campaign : Fin 4
  kind : Kind
  expectedTag : Byte
  receivedTag : Option Byte
  energy : Option Nat
  deriving DecidableEq, Repr

/-- The Sample Port (R40). The record timer, when it runs, carries its limit in µs after the TRIG pulse. -/
structure Port where
  lock : Lock
  rx : PortRx
  timer : Option Nat
  lastEnd : Option ShotEnd
  deriving DecidableEq, Repr

/-! ### Range gates and banks -/

/-- A GATE entry (R58): first range sample 0..4031, width 1..64. -/
structure GateEntry where
  s : Nat
  w : Nat
  deriving DecidableEq, Repr

/-- The gate table, the number of active bins 0..512 and the gate generation 0..255 (R58, R59, R63). -/
structure Gates where
  table : Vector GateEntry 512
  nb : Nat
  generation : Nat
  deriving DecidableEq, Repr

/-- Bank state (R65). -/
inductive BankState where
  | free
  | filling
  | closed
  | processing
  deriving DecidableEq, Repr

/-- One accumulation bank (R64). Its owner is fixed by its number. -/
structure Bank where
  state : BankState
  settings : RunSettings
  sequence : Nat
  sums : Vector Nat 512
  pre : Nat
  esum : Nat
  fired : Nat
  accepted : Nat
  rejected : Nat
  clippedShots : Nat
  clipMap : Vector Bool 512
  firstTick : Nat
  lastTick : Nat
  deriving DecidableEq, Repr

/-! ### The profile engine -/

/-- A CORR entry (R84): multiplier 0..65535, shift 0..15. -/
structure CorrEntry where
  m : Nat
  k : Nat
  deriving DecidableEq, Repr

/-- State of the dark reference (R85). -/
inductive DarkState where
  | none
  | valid
  | stale
  deriving DecidableEq, Repr

/-- The dark reference (R85): state, D_i, and the source campaign and sequence. -/
structure DarkRef where
  state : DarkState
  values : Vector Int 512
  source : Option (Fin 4 × Nat)
  deriving DecidableEq, Repr

/-- What the engine fixes for a LIT bank at the beginning of its processing (R75, items 3 and 4). -/
structure LitInputs where
  eRef : Nat
  eRefHeld : Bool
  dark : DarkRef
  deriving DecidableEq, Repr

/-- The bank in hand (R74, R75); a DARK bank has no lit inputs. -/
structure InHand where
  bank : Fin 8
  lit : Option LitInputs
  deriving DecidableEq, Repr

/-- The content of a PROFILE frame (R93). -/
structure Profile where
  campaign : Fin 4
  kind : Kind
  sequence : Nat
  firstTick : Nat
  lastTick : Nat
  accepted : Nat
  fired : Nat
  rejected : Nat
  clippedShots : Nat
  esum : Nat
  eRef : Option Nat
  generation : Nat
  nb : Nat
  flags : BitVec 16
  skipped : Nat
  darkSource : Option (Fin 4 × Nat)
  values : List Int
  deriving DecidableEq, Repr

/-- The profile out slot (R90, R92): it is occupied while a profile waits in it and while its frame is being sent. -/
inductive Slot where
  | empty
  | waiting (p : Profile)
  | sending
  deriving DecidableEq, Repr

/-- The Profile Engine (R73 to R75, R85, R90, R91). -/
structure Engine where
  inHand : Option InHand
  queue : List (Fin 8)
  lastERef : Vector Nat 4
  dark : DarkRef
  slot : Slot
  skipped : Nat
  deriving DecidableEq, Repr

/-! ### The layer finder and the track table -/

/-- A THRESH entry (R97): cloud threshold 1..2^31-1, haze threshold 0..2^31-1. -/
structure ThreshEntry where
  tc : Nat
  th : Nat
  deriving DecidableEq, Repr

/-- The FINDER entry (R99). -/
structure FinderEntry where
  mIn : Nat
  mOut : Nat
  fogFloor : Nat
  ridge : Nat
  vvLimit : Nat
  deriving DecidableEq, Repr

/-- The TRACKER entry (R120). -/
structure TrackerEntry where
  gate : Nat
  shift : Nat
  confirmHits : Nat
  dropMisses : Nat
  staleLimit : Nat
  deriving DecidableEq, Repr

/-- Class of a detection or track (R108). -/
inductive LayerClass where
  | cloud
  | fog
  deriving DecidableEq, Repr

/-- Flags of a detection or track (R106). -/
structure LayerFlags where
  topSeen : Bool
  clipped : Bool
  belowRidge : Bool
  deriving DecidableEq, Repr

/-- Track state (R119). -/
inductive TrackState where
  | tentative
  | confirmed
  | coasting
  deriving DecidableEq, Repr

/-- A track record (R119). -/
structure Track where
  id : Nat
  state : TrackState
  owner : Fin 4
  base : Nat
  top : Option Nat
  cls : LayerClass
  flags : LayerFlags
  peak : Int
  hits : Nat
  misses : Nat
  lastPass : Nat
  deriving DecidableEq, Repr

/-- The track table, its next-id counter and the sorting pass counter (R119). The list carries no order. -/
structure Sky where
  tracks : List Track
  nextId : Nat
  sp : Nat
  deriving DecidableEq, Repr

/-- Sky state of a profile (R110). -/
inductive SkyState where
  | clear
  | layers
  | obscured
  deriving DecidableEq, Repr

/-- One entry of a report (R131). -/
structure ReportEntry where
  id : Nat
  state : TrackState
  cls : LayerClass
  flags : LayerFlags
  base : Nat
  top : Option Nat
  peak : Int
  deriving DecidableEq, Repr

/-- A report (R130, R131); the layer count is the number of its entries. -/
structure Report where
  campaign : Fin 4
  sequence : Nat
  lastTick : Nat
  sky : SkyState
  vv : Option Nat
  haze : Option Nat
  summary : BitVec 16
  layers : List ReportEntry
  deriving DecidableEq, Repr

/-! ### The station link -/

/-- A command: KIND, TAG and payload of its frame (R144). -/
structure Command where
  kind : Byte
  tag : Byte
  payload : List Byte
  deriving DecidableEq, Repr

/-- Result codes (R148). -/
inductive ResultCode where
  | ok
  | busy
  | notReady
  | badKind
  | badParam
  | badTable
  | gateInvalid
  | rangeInvalid
  | headAbsent
  | storeRange
  | storeTimeout
  deriving DecidableEq, Repr

/-- A reply: TAG and KIND of its command, result code and data (R148). -/
structure Reply where
  tag : Byte
  kind : Byte
  code : ResultCode
  data : List Byte
  deriving DecidableEq, Repr

/-- The ten tables (The Station Link, Loading and reading tables). -/
inductive TableId where
  | gate
  | bins
  | corr
  | thresh
  | head
  | cadence
  | arb
  | camp
  | finder
  | tracker
  deriving DecidableEq, Repr

/-- The command the Command Unit holds (R147): a deferred load or TRACK_CLEAR, or a store command with what its operation
needs. -/
inductive Held where
  | deferredLoad (c : Command) (t : TableId)
  | deferredClear (c : Command)
  | storeRead (tag : Byte) (addr count : Nat)
  | storeWrite (tag : Byte) (addr : Nat) (data : List Byte)
  | storeErase (tag : Byte) (addr : Nat)
  deriving DecidableEq, Repr

/-- Receiver of the station link (R139, R141). The CRC register is 16 bits; BODY and CHECK hold the bytes from KIND on. -/
inductive LinkRx where
  | startWait
  | hunt
  | length (first : Option Byte) (crc : Word16)
  | body (len : Nat) (got : List Byte) (crc : Word16)
  | check (got : List Byte) (first : Option Byte) (crc : Word16)
  deriving DecidableEq, Repr

/-- Reasons of LINK_ERROR (R143). -/
inductive LinkError where
  | framing
  | length
  | gap
  | crc
  | outboundKind
  deriving DecidableEq, Repr

/-- A frame on the transmit wire (R152). -/
structure OutFrame where
  kind : Byte
  tag : Byte
  payload : List Byte
  deriving DecidableEq, Repr

/-- The station link: line rate, receiver, command queue, held command, outbound queues, transmit scheduler
(R138, R143, R144, R147, R152). -/
structure Link where
  rate : BitVec 2
  rx : LinkRx
  lastError : Option LinkError
  commands : List Command
  held : Option Held
  replies : List Reply
  reports : List Report
  sending : Option OutFrame
  deriving DecidableEq, Repr

/-- The sixteen status flags (R155) in the order of their bits (spec/10_formats.md, Masks). -/
inductive Flag where
  | loaderDone
  | loaderFault
  | headChange
  | headDone
  | overEnergy
  | laserBlocked
  | lockChange
  | shotReject
  | slotSkip
  | campaignEnd
  | bankWait
  | profileSkipped
  | reportReplaced
  | trackFull
  | cmdDropped
  | linkError
  deriving DecidableEq, Repr

/-- The Status Unit (R155), each set as the mask of R171. -/
structure Status where
  flags : BitVec 16
  enables : BitVec 16
  global : Bool
  pendingSet : BitVec 16
  deriving DecidableEq, Repr

/-! ### The table store and start-up -/

/-- Part state (R165). -/
inductive PartState where
  | loading
  | ready
  deriving DecidableEq, Repr

/-- Where a loader run stands (R166, R167): in the busy wait, past a busy wait that timed out, or before the next burst
with the address, the bursts still counted and the bursts applied. -/
inductive LoaderStage where
  | busyWait
  | timedOut
  | bursts (addr left applied : Nat)
  deriving DecidableEq, Repr

/-- The start-up sequence and STORE_RELOAD (R169, R170). -/
inductive Boot where
  | starting (stage : LoaderStage)
  | headStep
  | reloading (stage : LoaderStage)
  | ready
  deriving DecidableEq, Repr

/-- Loader result (R168). -/
inductive LoaderResult where
  | none
  | ok
  | empty
  | fault
  deriving DecidableEq, Repr

/-- Loader fault reason (R168). -/
inductive LoaderReason where
  | absent
  | format
  | burst
  | endMarker
  | overflow
  deriving DecidableEq, Repr

/-- The loader result record (R168). -/
structure LoaderRecord where
  result : LoaderResult
  reason : Option LoaderReason
  applied : Nat
  faultAddr : Option Nat
  deriving DecidableEq, Repr

/-- The serial store (R161): the bytes it answers to the identification read, whether it may still be busy, and its
content as a sparse list in canonical form (log 8). -/
structure Store where
  ident : BitVec 24
  busy : Bool
  cells : List Host.Cell
  deriving DecidableEq, Repr

/-! ### The part and the machine -/

/-- Everything the spec gives the part, and the store beside it. `free` is the model's own: it numbers the free values
taken so far (log 9). -/
structure Part where
  cadence : Cadence
  gen : GenState
  ticks : Nat
  trig : Bool
  fire : Option Nat
  bucket : Nat
  overEnergy : Bool
  stopped : Bool
  pendingCharge : Option Nat
  interlockOpen : Bool
  head : HeadState
  headTable : Vector HeadRow 8
  campTable : Vector CampEntry 4
  runs : Vector Run 4
  arb : Arbiter
  shot : Option Shot
  port : Port
  gates : Gates
  banks : Vector Bank 8
  engine : Engine
  corr : Vector CorrEntry 512
  thresh : Vector ThreshEntry 512
  finder : FinderEntry
  tracker : TrackerEntry
  sky : Sky
  link : Link
  status : Status
  boot : Boot
  loaded : LoaderRecord
  store : Store
  free : Nat
  deriving DecidableEq, Repr

/-- The machine: the part, and the queue of commands and events that wait, first in, first out. -/
structure State extends Part where
  pending : List Instr
  deriving DecidableEq, Repr

/-! ### Reset -/

/-- The reset CAMP entry (R21). -/
def CampEntry.reset : CampEntry :=
  { settings := { kind := .lit, sort := false, sortLo := 0, sortHi := 1, sendProfile := false }
    shots := 1, repeats := .once, autostart := false }

/-- A bank after device reset, or discarded (R64, R72): FREE and cleared. -/
def Bank.cleared : Bank :=
  { state := .free, settings := CampEntry.reset.settings, sequence := 0, sums := Vector.replicate 512 0, pre := 0
    esum := 0, fired := 0, accepted := 0, rejected := 0, clippedShots := 0, clipMap := Vector.replicate 512 false
    firstTick := 0, lastTick := 0 }

/-- The run state of a campaign after device reset (R20). -/
def Run.reset : Run := { state := .idle, held := false, remaining := 0, sequence := 0, completed := 0 }

/-- The dark reference after device reset (R85). -/
def DarkRef.reset : DarkRef := { state := .none, values := Vector.replicate 512 0, source := none }

/-- The rotating list at reset (R29). -/
def resetOrder : List (Fin 4) := [0, 1, 2, 3]

/-- The part after device reset (R170), given what it finds: the BAUD straps (R138), a head or none (R15), the interlock
open or closed (R7), the serial store, and the count of free values taken. -/
def Part.atReset (straps : BitVec 2) (headPresent interlockOpen : Bool) (store : Store) (free : Nat) : Part :=
  { cadence := { slotPeriod := 250, fireWidth := 2, run := false }
    gen := .stopped
    ticks := 0
    trig := false
    fire := none
    bucket := Config.bucketMax
    overEnergy := false
    stopped := false
    pendingCharge := none
    interlockOpen := interlockOpen
    head := if headPresent then .unverified else .absent
    headTable := Vector.replicate 8 { allowed := false, eRef := 1000, eMax := 1200, cap := 120000, drain := 300 }
    campTable := Vector.replicate 4 CampEntry.reset
    runs := Vector.replicate 4 Run.reset
    arb := { mode := .fixed, order := resetOrder, triggerCount := 0 }
    shot := none
    port := { lock := .unlocked 0, rx := .off, timer := none, lastEnd := none }
    gates := { table := Vector.replicate 512 { s := 0, w := 1 }, nb := 0, generation := 0 }
    banks := Vector.replicate 8 Bank.cleared
    engine := { inHand := none, queue := [], lastERef := Vector.replicate 4 1000, dark := DarkRef.reset
                slot := .empty, skipped := 0 }
    corr := Vector.replicate 512 { m := 0, k := 0 }
    thresh := Vector.replicate 512 { tc := 2147483647, th := 0 }
    finder := { mIn := 3, mOut := 3, fogFloor := 60, ridge := 0, vvLimit := 150000000 }
    tracker := { gate := 200, shift := 1, confirmHits := 3, dropMisses := 4, staleLimit := 20 }
    sky := { tracks := [], nextId := 1, sp := 0 }
    link := { rate := straps, rx := .startWait, lastError := none, commands := [], held := none, replies := []
              reports := [], sending := none }
    status := { flags := 0, enables := 0x0017, global := true, pendingSet := 0 }
    boot := .starting .busyWait
    loaded := { result := .none, reason := none, applied := 0, faultAddr := none }
    store := store
    free := free }

/-- The serial store of State.reset: it answers, is not busy, and is erased (DESIGN CHOICE, log 8). -/
def Store.erased : Store := { ident := 0xEF4016, busy := false, cells := [] }

/-- The machine right after device reset (R170), its straps 00, no head, the interlock open and an erased store
(DESIGN CHOICE, logs 7 and 8), with no command waiting. -/
def State.reset : State := { toPart := Part.atReset 0 false true Store.erased 0, pending := [] }

end Sys2Proof.Machine
end

