-- ==== Sys2Proof/Machine/Operands.lean ====
section
/-! DEFINITION. Operand forms: the byte order and field encodings of R171, the code and mask tables of
spec/10_formats.md, the layouts of the outbound frames, the CRC of R140, and access to tables by index. -/

namespace Sys2Proof.Machine

/-! ### Tables by index -/

/-- The vector whose entry `i` is `f i`. -/
def tab {α : Type} (n : Nat) (f : Nat → α) : Vector α n :=
  ⟨((List.range n).map f).toArray, by simp⟩

/-- Entry `i` of a table, `d` past its end. -/
def look {α : Type} {n : Nat} (v : Vector α n) (i : Nat) (d : α) : α := (v[i]?).getD d

/-- The table with entries `start, start + 1, …` replaced by `xs`. -/
def putRun {α : Type} {n : Nat} (v : Vector α n) (start : Nat) : List α → Vector α n
  | [] => v
  | x :: xs => putRun (v.setIfInBounds start x) (start + 1) xs

/-- Gate entry of a bin. -/
def Gates.entry (g : Gates) (i : Nat) : GateEntry := look g.table i { s := 0, w := 1 }

/-- Base height of a bin in metres (R62). -/
def Gates.base (g : Gates) (i : Nat) : Nat := 5 * (g.entry i).s

/-- Top height of a bin in metres (R62). -/
def Gates.top (g : Gates) (i : Nat) : Nat := 5 * ((g.entry i).s + (g.entry i).w)

/-- Span of a bin in metres (R62). -/
def Gates.span (g : Gates) (i : Nat) : Nat := 5 * (g.entry i).w

/-- Validity of the gate table (R61). -/
def Gates.valid (g : Gates) : Bool :=
  (1 ≤ g.nb) &&
  (List.range g.nb).all (fun i => (g.entry i).s + (g.entry i).w ≤ 4032) &&
  (List.range (g.nb - 1)).all (fun i => (g.entry i).s + (g.entry i).w ≤ (g.entry (i + 1)).s)

/-! ### Field encodings (R171) -/

/-- A byte from a number. -/
def byte (v : Nat) : Byte := BitVec.ofNat 8 v

/-- An unsigned field of `n` bytes, most significant first. -/
def be : Nat → Nat → List Byte
  | 0, _ => []
  | n + 1, v => be n (v / 256) ++ [byte v]

/-- The number a big-endian field holds. -/
def ofBe (bs : List Byte) : Nat := bs.foldl (fun acc b => acc * 256 + b.toNat) 0

/-- A signed field: four bytes, two's complement. -/
def beSigned (v : Int) : List Byte := be 4 (v % 4294967296).toNat

/-- An optional field of `n` bytes, its presence byte first; an absent one is all 0. -/
def beOpt (n : Nat) : Option Nat → List Byte
  | some v => 1 :: be n v
  | none => 0 :: be n 0

/-- A yes or no field of one byte. -/
def byteOfBool (b : Bool) : Byte := if b then 1 else 0

/-! ### Codes -/

def PartState.code : PartState → Byte
  | .loading => 0
  | .ready => 1

def ResultCode.code : ResultCode → Byte
  | .ok => 0
  | .busy => 1
  | .notReady => 2
  | .badKind => 3
  | .badParam => 4
  | .badTable => 5
  | .gateInvalid => 6
  | .rangeInvalid => 7
  | .headAbsent => 8
  | .storeRange => 9
  | .storeTimeout => 10

def CampState.code : CampState → Byte
  | .idle => 0
  | .active _ => 1
  | .waitBank => 2

def BankState.code : BankState → Byte
  | .free => 0
  | .filling => 1
  | .closed => 2
  | .processing => 3

def Kind.code : Kind → Byte
  | .lit => 0
  | .dark => 1

def HeadState.code : HeadState → Byte
  | .absent => 0
  | .unverified => 1
  | .measuring => 2
  | .verified _ => 3
  | .unreadable => 4

/-- The head code, when VERIFIED. -/
def HeadState.headCode : HeadState → Option (Fin 8)
  | .verified c => some c
  | _ => none

def GenState.code : GenState → Byte
  | .stopped => 0
  | .running _ => 1
  | .ending _ => 2

def Lock.code : Lock → Byte
  | .unlocked _ => 0
  | .locked _ => 1

def PortRx.code : PortRx → Byte
  | .off => 0
  | .settle _ => 1
  | .hunt => 2
  | .record _ => 3

def ShotOutcome.code : ShotOutcome → Byte
  | .accepted => 0
  | .rejected => 1
  | .abandoned => 2

def ShotReason.code : ShotReason → Byte
  | .none => 0
  | .check => 1
  | .format => 2
  | .fault => 3
  | .tag => 4
  | .timeout => 5
  | .lost => 6
  | .stop => 7
  | .restart => 8

def LinkError.code : LinkError → Nat
  | .framing => 1
  | .length => 2
  | .gap => 3
  | .crc => 4
  | .outboundKind => 5

def DarkState.code : DarkState → Byte
  | .none => 0
  | .valid => 1
  | .stale => 2

def SkyState.code : SkyState → Byte
  | .clear => 0
  | .layers => 1
  | .obscured => 2

def TrackState.code : TrackState → Byte
  | .tentative => 0
  | .confirmed => 1
  | .coasting => 2

def LayerClass.code : LayerClass → Byte
  | .cloud => 0
  | .fog => 1

def LoaderResult.code : LoaderResult → Byte
  | .none => 0
  | .ok => 1
  | .empty => 2
  | .fault => 3

def LoaderReason.code : LoaderReason → Nat
  | .absent => 1
  | .format => 2
  | .burst => 3
  | .endMarker => 4
  | .overflow => 5

def ArbMode.code : ArbMode → Byte
  | .fixed => 0
  | .rotating => 1

/-! ### Masks -/

/-- Bit of a status flag. -/
def Flag.bit : Flag → Nat
  | .loaderDone => 0
  | .loaderFault => 1
  | .headChange => 2
  | .headDone => 3
  | .overEnergy => 4
  | .laserBlocked => 5
  | .lockChange => 6
  | .shotReject => 7
  | .slotSkip => 8
  | .campaignEnd => 9
  | .bankWait => 10
  | .profileSkipped => 11
  | .reportReplaced => 12
  | .trackFull => 13
  | .cmdDropped => 14
  | .linkError => 15

/-- Mask of a status flag. -/
def Flag.mask (f : Flag) : BitVec 16 := 1#16 <<< f.bit

/-- The mask whose bit `i` is the `i`-th entry. -/
def maskOf (w : Nat) (bits : List Bool) : BitVec w :=
  bits.foldr (fun b m => (m <<< 1) ||| (if b then 1#w else 0#w)) 0#w

/-- Mask of detection and track flags. -/
def LayerFlags.mask (f : LayerFlags) : Byte := maskOf 8 [f.topSeen, f.clipped, f.belowRidge]

/-- A mask field of two bytes. -/
def beMask (m : BitVec 16) : List Byte := be 2 m.toNat

/-! ### CRC and frames -/

/-- The CRC register after one bit (R140, generator x^16 + x^12 + x^5 + 1). -/
def crcBit (r : Word16) (b : Bool) : Word16 :=
  if r.getLsbD 15 ^^ b then (r <<< 1) ^^^ 0x1021#16 else r <<< 1

/-- The CRC register after one byte, most significant bit first. -/
def crcByte (r : Word16) (b : Byte) : Word16 :=
  [7, 6, 5, 4, 3, 2, 1, 0].foldl (fun r i => crcBit r (b.getLsbD i)) r

/-- The CRC of a run of bytes, from 0xFFFF. -/
def crcOf (bs : List Byte) : Word16 := bs.foldl crcByte 0xFFFF#16

/-- The marker of a frame. -/
def marker : Byte := 0xC5

/-- The bytes of an outbound frame (R152): marker, LEN, KIND, TAG, payload, CRC. -/
def OutFrame.bytes (f : OutFrame) : List Byte :=
  let covered := be 2 (f.payload.length + 2) ++ f.kind :: f.tag :: f.payload
  marker :: covered ++ be 2 (crcOf covered).toNat

/-- Outbound KIND values (spec/10_formats.md, Station frame). -/
def replyKind : Byte := 0x81
def noticeKind : Byte := 0x82
def reportKind : Byte := 0x83
def profileKind : Byte := 0x84

/-- A KIND is one of the outbound kinds (R143). -/
def isOutbound (kind : Byte) : Bool :=
  decide (kind = replyKind) || decide (kind = noticeKind) || decide (kind = reportKind) || decide (kind = profileKind)

/-! ### Outbound layouts (spec/10_formats.md, part of R171) -/

/-- A REPLY frame (R148, R172): the KIND of the command, the result code, the data; the TAG of the command. -/
def Reply.frame (r : Reply) : OutFrame :=
  { kind := replyKind, tag := r.tag, payload := r.kind :: r.code.code :: r.data }

/-- A NOTICE frame (R156): pending set, flags, part state. -/
def noticeFrame (pendingSet flags : BitVec 16) (ps : PartState) : OutFrame :=
  { kind := noticeKind, tag := 0, payload := beMask pendingSet ++ beMask flags ++ [ps.code] }

/-- One entry of a REPORT frame, 13 bytes. -/
def ReportEntry.bytes (e : ReportEntry) : List Byte :=
  [byte e.id, e.state.code, e.cls.code, e.flags.mask] ++ be 2 e.base ++ beOpt 2 e.top ++ beSigned e.peak

/-- A REPORT frame: the header of 17 bytes and the entries (R130, R131). -/
def Report.frame (r : Report) : OutFrame :=
  { kind := reportKind, tag := 0
    payload := [byte r.campaign] ++ be 2 r.sequence ++ be 4 r.lastTick ++ [r.sky.code] ++ beOpt 2 r.vv ++ beOpt 2 r.haze
      ++ beMask r.summary ++ [byte r.layers.length] ++ (r.layers.map ReportEntry.bytes).flatten }

/-- A source of the dark reference as three bytes behind its presence byte: campaign, then sequence. -/
def darkSourceBytes : Option (Fin 4 × Nat) → List Byte
  | some (c, q) => [1, byte c] ++ be 2 q
  | none => [0, 0] ++ be 2 0

/-- A PROFILE frame: the header of 37 bytes and one signed value per active bin (R93). -/
def Profile.frame (p : Profile) : OutFrame :=
  { kind := profileKind, tag := 0
    payload := [byte p.campaign, p.kind.code] ++ be 2 p.sequence ++ be 4 p.firstTick ++ be 4 p.lastTick ++ be 2 p.accepted
      ++ be 2 p.fired ++ be 2 p.rejected ++ be 2 p.clippedShots ++ be 4 p.esum ++ beOpt 2 p.eRef ++ [byte p.generation]
      ++ be 2 p.nb ++ beMask p.flags ++ [byte p.skipped] ++ darkSourceBytes p.darkSource
      ++ (p.values.map beSigned).flatten }

/-- A track record of the READ_TRACKS reply, 18 bytes. -/
def Track.bytes (t : Track) : List Byte :=
  [byte t.id, t.state.code, byte t.owner] ++ be 2 t.base ++ beOpt 2 t.top ++ [t.cls.code, t.flags.mask] ++ beSigned t.peak
    ++ [byte t.hits, byte t.misses] ++ be 2 t.lastPass

end Sys2Proof.Machine
end

