-- ==== Sys2Proof/Machine/Flags.lean ====
section
/-! DEFINITION. The outbound side and the status flags: the Transmit Scheduler (R152, R153), replies (R148), the raising
of a flag with its notice (R155, R156), and the cause set of the laser with LASER_BLOCKED (R5, R7). -/

namespace Sys2Proof.Machine

/-- The part state is READY only when neither the start-up sequence nor a reload is running (R165). -/
def Part.partState (p : Part) : PartState :=
  match p.boot with
  | .ready => .ready
  | _ => .loading

/-! ### Transmit scheduler -/

/-- A frame boundary (R153): the scheduler begins a frame from the first non-empty source in the order of R152, REPLY
queue, pending notice, REPORT queue, profile out slot, or stays without a frame. -/
def Part.beginFrame (p : Part) : Part :=
  match p.link.replies with
  | r :: rest => { p with link := { p.link with replies := rest, sending := some r.frame } }
  | [] =>
    if p.status.pendingSet ≠ 0 then
      { p with
        link := { p.link with sending := some (noticeFrame p.status.pendingSet p.status.flags p.partState) }
        status := { p.status with pendingSet := 0 } }
    else
      match p.link.reports with
      | r :: rest => { p with link := { p.link with reports := rest, sending := some r.frame } }
      | [] =>
        match p.engine.slot with
        | .waiting q =>
          { p with link := { p.link with sending := some q.frame }, engine := { p.engine with slot := .sending } }
        | _ => p

/-- A source has become non-empty: an IDLE scheduler begins its frame at once (R153, log 5). -/
def Part.kick (p : Part) : Part :=
  match p.link.sending with
  | none => p.beginFrame
  | some _ => p

/-- A reply joins the REPLY queue (R148, R154). -/
def Part.placeReply (p : Part) (r : Reply) : Part :=
  Part.kick { p with link := { p.link with replies := p.link.replies ++ [r] } }

/-- The reply to a command: its TAG and KIND, a result code and data (R148). -/
def Part.answer (p : Part) (c : Command) (code : ResultCode) (data : List Byte) : Part :=
  p.placeReply { tag := c.tag, kind := c.kind, code := code, data := data }

/-! ### Status flags -/

/-- A flag is set. -/
def Status.has (s : Status) (f : Flag) : Bool := (s.flags &&& f.mask) ≠ 0

/-- A rise of `f` is put into the pending set: its enable and the global enable are on (R155). -/
def Status.noticed (s : Status) (f : Flag) : Bool := s.global && ((s.enables &&& f.mask) ≠ 0)

/-- A block raises a flag (R155): a clear flag becomes set, and, when enabled, joins the pending set. -/
def Part.raise (p : Part) (f : Flag) : Part :=
  if p.status.has f then p
  else if p.status.noticed f then
    Part.kick { p with status := { p.status with flags := p.status.flags ||| f.mask
                                                 pendingSet := p.status.pendingSet ||| f.mask } }
  else { p with status := { p.status with flags := p.status.flags ||| f.mask } }

/-! ### Causes -/

/-- The selected HEAD row: row c while the head is VERIFIED(c) (R15). -/
def Part.selectedRow (p : Part) : Option HeadRow :=
  match p.head with
  | .verified c => some p.headTable[c]
  | _ => none

/-- The HEAD cause (R5): no selected row, or its allowed is 0. -/
def Part.headCause (p : Part) : Bool :=
  match p.selectedRow with
  | some r => !r.allowed
  | none => true

/-- The cause set as its mask (R5): OVERENERGY, STOPPED, INTERLOCK, HEAD from bit 0. -/
def Part.causes (p : Part) : Byte := maskOf 8 [p.overEnergy, p.stopped, p.interlockOpen, p.headCause]

/-- The laser is permitted while the cause set is empty (R7). -/
def Part.permitted (p : Part) : Bool := !p.overEnergy && !p.stopped && !p.interlockOpen && !p.headCause

/-- LASER_BLOCKED rises when the cause set has gone from empty, before, to non-empty, now (R7). -/
def Part.causeEdge (before now : Part) : Part :=
  if before.permitted && !now.permitted then now.raise .laserBlocked else now

end Sys2Proof.Machine
end

