-- ==== Sys2Proof/Machine/Ops.lean ====
section
/-! DEFINITION. Named operations over memory and registers: the cells of the serial store, the banks and campaigns, the
beginning of processing, the end of a shot, the emission bucket, and the rounding convention. -/

namespace Sys2Proof.Machine

/-! ### The cells of the serial store (R161) -/

/-- What a byte that no cell lists reads as: an erased byte. -/
def unlistedByte : Byte := 0xFF

/-- The byte at an address. -/
def cellAt : List Host.Cell → Nat → Byte
  | [], _ => unlistedByte
  | (b, v) :: rest, a => if a = b then v else cellAt rest a

/-- The cells with the byte at `a` replaced by `v`, in canonical form. -/
def putCell : List Host.Cell → Nat → Byte → List Host.Cell
  | [], a, v => if v = unlistedByte then [] else [(a, v)]
  | (b, w) :: rest, a, v =>
    if a < b then (if v = unlistedByte then (b, w) :: rest else (a, v) :: (b, w) :: rest)
    else if a = b then (if v = unlistedByte then rest else (a, v) :: rest)
    else (b, w) :: putCell rest a v

/-- The canonical form from an address upward: addresses strictly rising, no cell equal to an unlisted byte. -/
def Memory.wfFrom : Nat → List Host.Cell → Bool
  | _, [] => true
  | lo, (a, v) :: rest => decide (lo ≤ a) && decide (v ≠ unlistedByte) && Memory.wfFrom (a + 1) rest

/-- The canonical form of a memory. -/
def Memory.wf (m : List Host.Cell) : Bool := Memory.wfFrom 0 m

/-- Programming from an address upward: each byte becomes its old value ANDed with the byte sent (R161). -/
def programCells (m : List Host.Cell) (addr : Nat) : List Byte → List Host.Cell
  | [] => m
  | d :: ds => programCells (putCell m addr (cellAt m addr &&& d)) (addr + 1) ds

/-- Programming that was cut off, or left to the store: each byte keeps its old value or takes the programmed one, by a
free choice numbered from `n` (R161, R163, log 10). -/
def cutProgramCells (m : List Host.Cell) (n addr : Nat) : List Byte → List Host.Cell
  | [] => m
  | d :: ds =>
    cutProgramCells (if Config.cutKeepsOld n then m else putCell m addr (cellAt m addr &&& d)) (n + 1) (addr + 1) ds

/-- An address lies in the sector that begins at `addr`. -/
def inSector (addr a : Nat) : Bool := decide (addr ≤ a) && decide (a < addr + Config.sectorSize)

/-- Erasing sets every byte of the sector to 0xFF (R161). -/
def eraseCells (m : List Host.Cell) (addr : Nat) : List Host.Cell := m.filter fun c => !inSector addr c.1

/-- An erase that was cut off, or left to the store: each byte of the sector is old or 0xFF, by a free choice numbered
from `n` (R161, R164, log 10). -/
def cutEraseCells (m : List Host.Cell) (n addr : Nat) : List Host.Cell :=
  m.filter fun c => !inSector addr c.1 || Config.cutKeepsOld (n + (c.1 - addr))

/-! ### Banks and campaigns -/

/-- The bank 2k, or 2k+1 when `odd`, of campaign k (R20). -/
def bankOf (k : Fin 4) (odd : Bool) : Fin 8 := ⟨2 * k + odd.toNat, by cases odd <;> simp <;> omega⟩

/-- The owner of a bank, floor(b/2) (R64). -/
def ownerOf (b : Fin 8) : Fin 4 := ⟨b / 2, by omega⟩

/-- Replace one bank. -/
def Part.setBank (p : Part) (b : Fin 8) (x : Bank) : Part := { p with banks := p.banks.set b x }

/-- Replace the run state of one campaign. -/
def Part.setRun (p : Part) (k : Fin 4) (r : Run) : Part := { p with runs := p.runs.set k r }

/-- The filling bank of a campaign (R20). -/
def Part.fillingBank (p : Part) (k : Fin 4) : Option (Fin 8) :=
  match p.runs[k].state with
  | .active odd => some (bankOf k odd)
  | _ => none

/-- The bank of campaign k that is FREE, 2k first (R24). -/
def Part.freeSide (p : Part) (k : Fin 4) : Option Bool :=
  if p.banks[bankOf k false].state = .free then some false
  else if p.banks[bankOf k true].state = .free then some true
  else none

/-- A bank as it stands when opened (R66): FILLING, every field cleared, the owner's run settings copied. -/
def Bank.opened (settings : RunSettings) : Bank := { Bank.cleared with state := .filling, settings := settings }

/-- Opening a bank of campaign k (R24, R66): it becomes the filling bank and the campaign ACTIVE. -/
def Part.openBank (p : Part) (k : Fin 4) (odd : Bool) : Part :=
  (p.setBank (bankOf k odd) (Bank.opened p.campTable[k].settings)).setRun k { p.runs[k] with state := .active odd }

/-- Every campaign is IDLE and every bank is FREE (R60, R169). -/
def Part.atRest (p : Part) : Bool :=
  p.runs.toList.all (fun r => r.state = .idle) && p.banks.toList.all (fun b => b.state = .free)

/-- A VALID dark reference becomes STALE (R87). -/
def Part.staleDark (p : Part) : Part :=
  if p.engine.dark.state = .valid then
    { p with engine := { p.engine with dark := { p.engine.dark with state := .stale } } }
  else p

/-! ### The beginning of processing -/

/-- The inputs fixed for a LIT bank of campaign c (R75): E_ref of the selected row or the campaign's last E_ref, and the
dark reference as it stands. -/
def Part.litInputs (p : Part) (c : Fin 4) : LitInputs :=
  match p.selectedRow with
  | some row => { eRef := row.eRef, eRefHeld := false, dark := p.engine.dark }
  | none => { eRef := p.engine.lastERef[c], eRefHeld := true, dark := p.engine.dark }

/-- The engine, when IDLE, begins the bank at the head of the profile queue (R74, R75). -/
def Part.beginNext (p : Part) : Part :=
  match p.engine.inHand, p.engine.queue with
  | none, b :: rest =>
    let q := p.setBank b { p.banks[b] with state := .processing }
    match p.banks[b].settings.kind with
    | .dark => { q with engine := { p.engine with inHand := some { bank := b, lit := none }, queue := rest } }
    | .lit =>
      { q with engine := { p.engine with
          inHand := some { bank := b, lit := some (p.litInputs (ownerOf b)) }
          queue := rest
          lastERef := p.engine.lastERef.set (ownerOf b) (p.litInputs (ownerOf b)).eRef } }
  | _, _ => p

/-! ### The emission bucket -/

/-- An amount is added to the bucket, which saturates (R9). -/
def Part.pour (p : Part) (amount : Nat) : Part := { p with bucket := min (p.bucket + amount) Config.bucketMax }

/-- The Emission Monitor takes a shot end (R9, R10): with a pending charge, E or else the charge is added to the bucket,
the charge becomes absent, and an E above it latches OVERENERGY when that is clear. -/
def Part.chargeShot (p : Part) (energy : Option Nat) : Part :=
  match p.pendingCharge with
  | none => p
  | some charge =>
    let q := { p.pour (energy.getD charge) with pendingCharge := none }
    if energy.getD charge > charge && !p.overEnergy then
      Part.causeEdge q (Part.raise { q with overEnergy := true } .overEnergy)
    else q

/-! ### The end of a shot -/

/-- A record in progress bound to the shot in flight is bound, from now on, to a shot that has ended (R45). -/
def PortRx.unbind : PortRx → PortRx
  | .record r => .record { r with bound := if r.bound = .inFlight then .ended else r.bound }
  | rx => rx

/-- The shot-in-flight record is removed and the record timer stops (R49, R52, R53). -/
def Part.removeShot (p : Part) : Part :=
  { p with shot := none, port := { p.port with timer := none, rx := p.port.rx.unbind } }

/-- The last shot end is set (R57). -/
def Part.setLastEnd (p : Part) (e : ShotEnd) : Part := { p with port := { p.port with lastEnd := some e } }

/-- The end of a shot as the last shot end shows it (R57). -/
def Shot.ended (s : Shot) (outcome : ShotOutcome) (reason : ShotReason) (tag : Option Byte) (energy : Option Nat) : ShotEnd :=
  { outcome := outcome, reason := reason, campaign := s.campaign, kind := s.kind, expectedTag := s.expectedTag
    receivedTag := tag, energy := energy }

/-- A count of 16 bits that saturates goes up by one (R31, R49, R54). -/
def bump16 (n : Nat) : Nat := min (n + 1) 65535

/-- The target bank's rejected count goes up by one (R49, R67). -/
def Part.countRejected (p : Part) (b : Fin 8) : Part :=
  p.setBank b { p.banks[b] with rejected := bump16 p.banks[b].rejected }

/-- A shot in flight ends rejected. Not abandoned (R49): its bank counts the rejection, SHOT_REJECT rises, the Emission
Monitor takes the end. Abandoned (R52): the Emission Monitor takes the end, SHOT_REJECT rises, no bank changes. -/
def Part.rejectShot (p : Part) (s : Shot) (reason : ShotReason) (tag : Option Byte) (energy : Option Nat) : Part :=
  if s.abandoned then
    Part.raise ((p.removeShot.chargeShot energy).setLastEnd (s.ended .rejected reason tag energy)) .shotReject
  else
    (((p.removeShot.countRejected s.target).raise .shotReject).chargeShot energy).setLastEnd
      (s.ended .rejected reason tag energy)

/-! ### Rounding (R79) -/

/-- round(a / b) for a positive b: to the nearest integer, ties away from zero. -/
def roundDiv (a : Int) (b : Nat) : Int :=
  let m : Nat := (2 * a.natAbs + b) / (2 * b)
  if a < 0 then -(m : Int) else (m : Int)

/-- A value clamped to a range (R81, R83). -/
def clampInt (lo hi v : Int) : Int := max lo (min hi v)

end Sys2Proof.Machine
end

