-- ==== Sys2Proof/Machine/Campaign.lean ====
section
/-! DEFINITION. Measurement Campaigns (R20 to R39): the campaign commands, starting and autostart, terminal count, and
the freeing of a bank. -/

namespace Sys2Proof.Machine

/-- The campaign a one-byte payload names, 0..3. -/
def campaignArg (c : Command) : Option (Fin 4) :=
  match c.payload with
  | [b] => if h : b.toNat < 4 then some ⟨b.toNat, h⟩ else none
  | _ => none

/-! ### Starting -/

/-- Checks 2 to 4 of START (R23), OK when all pass. -/
def Part.startCheck (p : Part) (k : Fin 4) : ResultCode :=
  let e := p.campTable[k].settings
  if p.runs[k].state ≠ .idle then .busy
  else if !p.gates.valid then .gateInvalid
  else if e.sort && !(decide (e.sortLo < e.sortHi) && decide (e.sortHi < p.gates.nb)) then .rangeInvalid
  else .ok

/-- A campaign takes a bank, or waits for one, with `remaining` shots to accept (R23, R34). -/
def Part.openOrWait (p : Part) (k : Fin 4) : Part :=
  let q := p.setRun k { p.runs[k] with remaining := p.campTable[k].shots }
  match q.freeSide k with
  | some odd => q.openBank k odd
  | none => q.setRun k { q.runs[k] with state := .waitBank }

/-- The campaign has just entered WAIT_BANK, so BANK_WAIT rises (R23, R34). -/
def Part.noteWait (p : Part) (k : Fin 4) : Part :=
  if p.runs[k].state = .waitBank then p.raise .bankWait else p

/-- START (R23). -/
def Part.takeStart (p : Part) (c : Command) : Part :=
  match campaignArg c with
  | none => p.answer c .badParam []
  | some k =>
    match p.startCheck k with
    | .ok =>
      let q := (p.openOrWait k).noteWait k
      q.answer c .ok [q.runs[k].state.code]
    | code => p.answer c code []

/-- Autostart of one campaign (R38): started as START does when checks 2 to 4 pass, without reply or flag. -/
def Part.autostartOne (p : Part) (k : Fin 4) : Part :=
  if p.campTable[k].autostart && decide (p.startCheck k = .ok) then p.openOrWait k else p

/-- Autostart (R38), in the order C0, C1, C2, C3. -/
def Part.autostart (p : Part) : Part :=
  (((p.autostartOne 0).autostartOne 1).autostartOne 2).autostartOne 3

/-! ### STOP, HOLD, RESUME -/

/-- A shot in flight of campaign k is marked abandoned (R25, R27). -/
def Part.abandonShotOf (p : Part) (k : Fin 4) : Part :=
  match p.shot with
  | some s => if s.campaign = k then { p with shot := some { s with abandoned := true } } else p
  | none => p

/-- STOP of campaign k (R25): its filling bank is discarded (R72), the campaign becomes IDLE, its shot is abandoned. -/
def Part.stopCampaign (p : Part) (k : Fin 4) : Part :=
  let q := p.abandonShotOf k
  match p.runs[k].state with
  | .idle => q
  | .waitBank => q.setRun k { p.runs[k] with state := .idle, remaining := 0 }
  | .active odd => (q.setBank (bankOf k odd) Bank.cleared).setRun k { p.runs[k] with state := .idle, remaining := 0 }

/-- STOP (R25). -/
def Part.takeStop (p : Part) (c : Command) : Part :=
  match campaignArg c with
  | none => p.answer c .badParam []
  | some k => (p.stopCampaign k).answer c .ok []

/-- HOLD (R26). -/
def Part.takeHold (p : Part) (c : Command) : Part :=
  match campaignArg c with
  | none => p.answer c .badParam []
  | some k => (p.setRun k { p.runs[k] with held := true }).answer c .ok []

/-- RESUME (R26). -/
def Part.takeResume (p : Part) (c : Command) : Part :=
  match campaignArg c with
  | none => p.answer c .badParam []
  | some k => (p.setRun k { p.runs[k] with held := false }).answer c .ok []

/-! ### READ_CAMPAIGN -/

/-- The sequence a bank block shows: only when CLOSED or PROCESSING (R37). -/
def Bank.shownSequence (b : Bank) : Option Nat :=
  match b.state with
  | .closed | .processing => some b.sequence
  | .free | .filling => none

/-- A bank block of the campaign layout, 11 bytes (R172). -/
def Part.bankBlock (p : Part) (b : Fin 8) : List Byte :=
  [byte b, p.banks[b].state.code] ++ beOpt 2 p.banks[b].shownSequence ++ be 2 p.banks[b].fired ++ be 2 p.banks[b].accepted
    ++ be 2 p.banks[b].rejected

/-- Whether the shot in flight is this campaign's, and whether it is abandoned (R37). -/
def Part.shotMark (p : Part) (k : Fin 4) : Byte :=
  match p.shot with
  | some s => if s.campaign = k then (if s.abandoned then 2 else 1) else 0
  | none => 0

/-- The campaign layout of the READ_CAMPAIGN reply, 39 bytes (R37, R172). -/
def Part.campaignLayout (p : Part) (k : Fin 4) : List Byte :=
  let r := p.runs[k]
  [r.state.code, byteOfBool r.held] ++ be 2 r.remaining ++ beOpt 1 ((p.fillingBank k).map Fin.val) ++ be 2 r.sequence
    ++ be 2 r.completed ++ p.bankBlock (bankOf k false) ++ p.bankBlock (bankOf k true)
    ++ [p.shotMark k, p.arb.mode.code] ++ p.arb.order.map (fun j : Fin 4 => byte j.val) ++ [p.arb.triggerCount]

/-- READ_CAMPAIGN (R37). -/
def Part.takeReadCampaign (p : Part) (c : Command) : Part :=
  match campaignArg c with
  | none => p.answer c .badParam []
  | some k => p.answer c .ok (p.campaignLayout k)

/-! ### Terminal count and the freeing of a bank -/

/-- The filling bank `b` of campaign k closes (R33, R70): CLOSED with the campaign's sequence number, the counter goes up,
the bank joins the profile queue, and an IDLE engine begins it (R74). -/
def Part.closeBank (p : Part) (k : Fin 4) (b : Fin 8) : Part :=
  let q := p.setBank b { p.banks[b] with state := .closed, sequence := p.runs[k].sequence }
  let r := q.setRun k { p.runs[k] with state := .idle, remaining := 0, sequence := (p.runs[k].sequence + 1) % 65536 }
  Part.beginNext { r with engine := { p.engine with queue := p.engine.queue ++ [b] } }

/-- What a campaign does after its bank has closed (R33, R34): ONCE ends, CONTINUOUS takes its other bank or waits. -/
def Part.afterClose (p : Part) (k : Fin 4) : Part :=
  match p.campTable[k].repeats with
  | .once => p.raise .campaignEnd
  | .continuous => (p.openOrWait k).noteWait k

/-- The remaining count goes down by one; at 0 the campaign is at terminal count (R32, R33). -/
def Part.countDown (p : Part) (k : Fin 4) : Part :=
  match p.runs[k].state with
  | .active odd =>
    if p.runs[k].remaining ≤ 1 then (p.closeBank k (bankOf k odd)).afterClose k
    else p.setRun k { p.runs[k] with remaining := p.runs[k].remaining - 1 }
  | _ => p

/-- The engine frees a bank at profile complete (R35, R71): its contents are kept, the owner's count of profiles goes up,
and a WAIT_BANK owner opens the bank at once. -/
def Part.freeBank (p : Part) (b : Fin 8) : Part :=
  let k := ownerOf b
  let q := (p.setBank b { p.banks[b] with state := .free }).setRun k
    { p.runs[k] with completed := (p.runs[k].completed + 1) % 65536 }
  match p.runs[k].state with
  | .waitBank => q.openBank k (decide (b.val % 2 = 1))
  | _ => q

end Sys2Proof.Machine
end

