-- ==== Sys2Proof/Machine/Laser.lean ====
section
/-! DEFINITION. Firing the Laser (R1 to R19) and the Shot Arbiter at a slot tick (R27 to R31): the generator, the lit
permit, the grant, the trigger outputs, the interlock, the head, and the laser commands. -/

namespace Sys2Proof.Machine

/-! ### Slot ticks -/

/-- The drain of a tick (R6): the DRAIN of the selected row, 0 when no row is selected. -/
def Part.drainAmount (p : Part) : Nat :=
  match p.selectedRow with
  | some r => r.drain
  | none => 0

/-- The tick count advances and the bucket drains, stopping at 0 (R1, R6). -/
def Part.tickAndDrain (p : Part) : Part :=
  { p with ticks := (p.ticks + 1) % 4294967296, bucket := p.bucket - p.drainAmount }

/-- The sample port is LOCKED (R42). -/
def Port.isLocked (q : Port) : Bool :=
  match q.lock with
  | .locked _ => true
  | .unlocked _ => false

/-- The lit permit, on the bucket level after the drain (R8). -/
def Part.litPermit (p : Part) : Bool :=
  match p.selectedRow with
  | some r =>
    p.permitted && decide (p.bucket + r.eMax ≤ r.cap) && p.port.isLocked && decide (p.partState = .ready)
  | none => false

/-- A campaign is eligible at a tick (R28): ACTIVE, not held, the part READY, the port LOCKED, and for LIT the permit. -/
def Part.eligible (p : Part) (k : Fin 4) : Bool :=
  (p.fillingBank k).isSome && !p.runs[k].held && decide (p.partState = .ready) && p.port.isLocked &&
    (decide (p.campTable[k].settings.kind = .dark) || p.litPermit)

/-- The priority order at a tick, highest first (R29). -/
def Part.priority (p : Part) : List (Fin 4) :=
  match p.arb.mode with
  | .fixed => resetOrder
  | .rotating => p.arb.order

/-- The campaign granted moves to the bottom, the other three keep their order (R29). -/
def moveToBottom (order : List (Fin 4)) (k : Fin 4) : List (Fin 4) := order.filter (· ≠ k) ++ [k]

/-- The pending charge of a lit grant: the E_max of the selected row (R9). -/
def Part.chargeAtGrant (p : Part) : Nat :=
  match p.selectedRow with
  | some r => r.eMax
  | none => 0

/-- A grant to campaign k, whose filling bank is b (R31): the trigger count advances, TRIG pulses, for LIT FIRE pulses and
the pending charge is recorded, the shot-in-flight record is made, the fired count rises, in ROTATING the list turns,
and the record timer starts (R55). -/
def Part.grant (p : Part) (k : Fin 4) (b : Fin 8) : Part :=
  let kind := p.campTable[k].settings.kind
  let tag := p.arb.triggerCount + 1
  Part.setBank
    { p with
      trig := true
      fire := if kind = .lit then some p.cadence.fireWidth else p.fire
      pendingCharge := if kind = .lit then some p.chargeAtGrant else p.pendingCharge
      shot := some { campaign := k, kind := kind, expectedTag := tag, target := b, abandoned := false }
      arb := { p.arb with
        triggerCount := tag
        order := if p.arb.mode = .rotating then moveToBottom p.arb.order k else p.arb.order }
      port := { p.port with timer := some Config.recordTimeoutUs } }
    b { p.banks[b] with fired := bump16 p.banks[b].fired }

/-- What the arbiter does at a tick, after the drain (R30): skip, nothing, or a grant. -/
def Part.arbitrate (p : Part) : Part :=
  match p.shot with
  | some _ => p.raise .slotSkip
  | none =>
    match p.priority.find? p.eligible with
    | none => p
    | some k =>
      match p.fillingBank k with
      | some b => p.grant k b
      | none => p

/-- A slot tick (R1, R6, R8, R30). -/
def Part.slotTick (p : Part) : Part := p.tickAndDrain.arbitrate

/-- The end of the slot period in progress (R3). -/
def Part.periodEnd (p : Part) : Part :=
  match p.gen with
  | .stopped => p
  | .running _ => Part.slotTick { p with gen := .running p.cadence.slotPeriod }
  | .ending _ => { p with gen := .stopped }

/-- PERIOD_END (R3). With the generator STOPPED no period runs, and nothing changes (log 2). -/
def execPeriodEnd (s : State) : Host.Outcome State Fault Refusal :=
  .next { s with toPart := s.toPart.periodEnd }

/-- TRIG_PULSE_END (R4): TRIG returns low. -/
def execTrigPulseEnd (s : State) : Host.Outcome State Fault Refusal :=
  .next { s with trig := false }

/-- FIRE_PULSE_END (R4): FIRE returns low. -/
def execFirePulseEnd (s : State) : Host.Outcome State Fault Refusal :=
  .next { s with fire := none }

/-- The generator acts on a newly stored run value (R3). -/
def GenState.onRun (g : GenState) (run : Bool) (period : Nat) : GenState :=
  match g, run with
  | .stopped, true => .running period
  | .stopped, false => .stopped
  | .running n, true => .running n
  | .running n, false => .ending n
  | .ending n, true => .running n
  | .ending n, false => .ending n

/-! ### Interlock and head -/

/-- The interlock input opens or closes (R7). -/
def Part.setInterlock (p : Part) (isOpen : Bool) : Part := Part.causeEdge p { p with interlockOpen := isOpen }

/-- INTERLOCK_CHANGE (R7). -/
def execInterlockChange (isOpen : Bool) (s : State) : Host.Outcome State Fault Refusal :=
  .next { s with toPart := s.toPart.setInterlock isOpen }

/-- The head state changes; LASER_BLOCKED follows the HEAD cause (R7, R14, R16, R17). -/
def Part.setHead (p : Part) (h : HeadState) : Part := Part.causeEdge p { p with head := h }

/-- The head state a measured resistance gives (R16). -/
def headOfOhms (r : Nat) : HeadState :=
  if r < 500 then .unreadable
  else if 900 ≤ r ∧ r ≤ 1100 then .verified 0
  else if 1980 ≤ r ∧ r ≤ 2420 then .verified 1
  else if 4230 ≤ r ∧ r ≤ 5170 then .verified 2
  else if 9000 ≤ r ∧ r ≤ 11000 then .verified 3
  else if 19800 ≤ r ∧ r ≤ 24200 then .verified 4
  else if 42300 ≤ r ∧ r ≤ 51700 then .verified 5
  else if 90000 ≤ r ∧ r ≤ 110000 then .verified 6
  else if 198000 ≤ r ∧ r ≤ 242000 then .verified 7
  else if 470000 < r then .absent
  else .unreadable

/-! ### Laser commands -/

/-- LASER_STOP (R11): STOPPED latches, and the reply lists the cause set. -/
def Part.takeLaserStop (p : Part) (c : Command) : Part :=
  let q := Part.causeEdge p { p with stopped := true }
  q.answer c .ok [q.causes]

/-- LASER_RELEASE (R12): both latches clear, and the reply lists the causes that remain. -/
def Part.takeLaserRelease (p : Part) (c : Command) : Part :=
  let q := { p with stopped := false, overEnergy := false }
  q.answer c .ok [q.causes]

/-- The laser layout of the READ_LASER reply, 16 bytes (R13, R172). -/
def Part.laserLayout (p : Part) : List Byte :=
  be 3 p.bucket ++ [p.causes, byteOfBool (!p.interlockOpen), p.head.code] ++ beOpt 1 (p.head.headCode.map Fin.val)
    ++ beOpt 2 p.pendingCharge ++ [p.gen.code] ++ be 4 p.ticks

/-- READ_LASER (R13). -/
def Part.takeReadLaser (p : Part) (c : Command) : Part := p.answer c .ok p.laserLayout

/-- MEASURE_HEAD (R17). -/
def Part.takeMeasureHead (p : Part) (c : Command) : Part :=
  match p.head with
  | .absent => p.answer c .headAbsent []
  | .measuring => p.answer c .busy []
  | _ => (p.setHead .measuring).answer c .ok []

end Sys2Proof.Machine
end

