-- ==== Sys2Proof/Machine/Tables.lean ====
section
/-! DEFINITION. The ten tables (R150, R151): their ids and entry sizes, the field checks and clamps of their owning rules,
the writing and reading of entries, LOAD_TABLE and READ_TABLE. -/

namespace Sys2Proof.Machine

/-- The table an id byte names. -/
def tableOf (id : Nat) : Option TableId :=
  match id with
  | 1 => some .gate
  | 2 => some .bins
  | 3 => some .corr
  | 4 => some .thresh
  | 5 => some .head
  | 6 => some .cadence
  | 7 => some .arb
  | 8 => some .camp
  | 9 => some .finder
  | 10 => some .tracker
  | _ => none

/-- Number of entries of a table. -/
def tableEntries : TableId → Nat
  | .gate | .corr | .thresh => 512
  | .head => 8
  | .camp => 4
  | .bins | .cadence | .arb | .finder | .tracker => 1

/-- Size of an entry in bytes. -/
def tableSize : TableId → Nat
  | .gate => 3
  | .bins => 2
  | .corr => 3
  | .thresh => 8
  | .head => 10
  | .cadence => 4
  | .arb => 1
  | .camp => 11
  | .finder => 11
  | .tracker => 6

/-! ### Fields of an entry -/

/-- The field of `n` bytes at an offset. -/
def field (bs : List Byte) (at_ n : Nat) : Nat := ofBe ((bs.drop at_).take n)

/-- The first `count` entries of `size` bytes of a run. -/
def splitEntries (size : Nat) : Nat → List Byte → List (List Byte)
  | 0, _ => []
  | n + 1, bs => bs.take size :: splitEntries size n (bs.drop size)

/-- The field checks of one entry as loaded: R58, R59, R84, R97, R18, R2, R29, R21, R99, R120. -/
def entryOk (t : TableId) (e : List Byte) : Bool :=
  match t with
  | .gate => decide (field e 0 2 ≤ 4031) && decide (1 ≤ field e 2 1) && decide (field e 2 1 ≤ 64)
  | .bins => decide (field e 0 2 ≤ 512)
  | .corr => decide (field e 2 1 ≤ 15)
  | .thresh => decide (1 ≤ field e 0 4) && decide (field e 0 4 ≤ 2147483647) && decide (field e 4 4 ≤ 2147483647)
  | .head =>
    decide (field e 0 1 ≤ 1) && decide (1 ≤ field e 1 2) && decide (1 ≤ field e 3 2) && decide (field e 3 2 ≤ field e 5 3)
  | .cadence => decide (field e 3 1 ≤ 1)
  | .arb => decide (field e 0 1 ≤ 1)
  | .camp =>
    decide (field e 0 1 ≤ 1) && decide (1 ≤ field e 1 2) && decide (field e 3 1 ≤ 1) && decide (field e 4 1 ≤ 1) &&
      decide (field e 5 2 ≤ 511) && decide (field e 7 2 ≤ 511) && decide (field e 9 1 ≤ 1) && decide (field e 10 1 ≤ 1) &&
      !(decide (field e 0 1 = 1) && decide (field e 4 1 = 1))
  | .finder => decide (field e 2 2 ≤ 1000) && decide (field e 4 2 ≤ 20160) && decide (1 ≤ field e 6 5)
  | .tracker =>
    decide (field e 2 1 ≤ 4) && decide (1 ≤ field e 3 1) && decide (field e 3 1 ≤ 15) && decide (1 ≤ field e 4 1) &&
      decide (field e 4 1 ≤ 15) && decide (1 ≤ field e 5 1)

/-- The index in the table of the first entry found faulty in ascending order (R150). -/
def firstFaulty (t : TableId) : Nat → List (List Byte) → Option Nat
  | _, [] => none
  | i, e :: rest => if entryOk t e then firstFaulty t (i + 1) rest else some i

/-- A loaded value stored within a range (R2, R99, R120). -/
def clampNat (lo hi v : Nat) : Nat := max lo (min hi v)

/-! ### Entries as stored -/

def gateOf (e : List Byte) : GateEntry := { s := field e 0 2, w := field e 2 1 }
def corrOf (e : List Byte) : CorrEntry := { m := field e 0 2, k := field e 2 1 }
def threshOf (e : List Byte) : ThreshEntry := { tc := field e 0 4, th := field e 4 4 }

def headRowOf (e : List Byte) : HeadRow :=
  { allowed := decide (field e 0 1 = 1), eRef := field e 1 2, eMax := field e 3 2, cap := field e 5 3, drain := field e 8 2 }

/-- A CADENCE entry with its clamps (R2): the period at least 200, the width 1 to the smaller of 20 and floor(P/4). -/
def cadenceOf (e : List Byte) : Cadence :=
  let period := max 200 (field e 0 2)
  { slotPeriod := period, fireWidth := clampNat 1 (min 20 (period / 4)) (field e 2 1), run := decide (field e 3 1 = 1) }

def arbModeOf (e : List Byte) : ArbMode := if field e 0 1 = 1 then .rotating else .fixed

def campOf (e : List Byte) : CampEntry :=
  { settings :=
      { kind := if field e 0 1 = 1 then .dark else .lit, sort := decide (field e 4 1 = 1), sortLo := field e 5 2
        sortHi := field e 7 2, sendProfile := decide (field e 9 1 = 1) }
    shots := field e 1 2
    repeats := if field e 3 1 = 1 then .continuous else .once
    autostart := decide (field e 10 1 = 1) }

/-- A FINDER entry with its clamps (R99). -/
def finderOf (e : List Byte) : FinderEntry :=
  { mIn := clampNat 1 8 (field e 0 1), mOut := clampNat 1 8 (field e 1 1), fogFloor := field e 2 2, ridge := field e 4 2
    vvLimit := field e 6 5 }

/-- A TRACKER entry with its clamp (R120). -/
def trackerOf (e : List Byte) : TrackerEntry :=
  { gate := clampNat 10 2000 (field e 0 2), shift := field e 2 1, confirmHits := field e 3 1, dropMisses := field e 4 1
    staleLimit := field e 5 1 }

/-! ### Writing -/

/-- The effects of every accepted GATE or BINS load beside the entries (R60, R63, R87). -/
def Part.gateLoaded (p : Part) : Part :=
  Part.staleDark { p with gates := { p.gates with generation := (p.gates.generation + 1) % 256 } }

/-- A CADENCE entry is stored, and the generator acts on its run value (R2, R3). -/
def Part.storeCadence (p : Part) (c : Cadence) : Part :=
  { p with cadence := c, gen := p.gen.onRun c.run c.slotPeriod }

/-- An ARB entry is stored; ROTATING resets the list (R29). -/
def Part.storeArb (p : Part) (m : ArbMode) : Part :=
  { p with arb := { p.arb with mode := m, order := if m = .rotating then resetOrder else p.arb.order } }

/-- The entries of an accepted load are written from `start` on, with the effects of the table's owning rule (R150). -/
def Part.writeEntries (p : Part) (t : TableId) (start : Nat) (es : List (List Byte)) : Part :=
  match t with
  | .gate => Part.gateLoaded { p with gates := { p.gates with table := putRun p.gates.table start (es.map gateOf) } }
  | .bins => Part.gateLoaded { p with gates := { p.gates with nb := field (es.headD []) 0 2 } }
  | .corr => { p with corr := putRun p.corr start (es.map corrOf) }
  | .thresh => { p with thresh := putRun p.thresh start (es.map threshOf) }
  | .head => Part.causeEdge p { p with headTable := putRun p.headTable start (es.map headRowOf) }
  | .cadence => p.storeCadence (cadenceOf (es.headD []))
  | .arb => p.storeArb (arbModeOf (es.headD []))
  | .camp => { p with campTable := putRun p.campTable start (es.map campOf) }
  | .finder => { p with finder := finderOf (es.headD []) }
  | .tracker => { p with tracker := trackerOf (es.headD []) }

/-! ### Reading -/

/-- The entry of a table as stored, in the layout of spec/10_formats.md. -/
def Part.entryBytes (p : Part) (t : TableId) (i : Nat) : List Byte :=
  match t with
  | .gate => let e := p.gates.entry i; be 2 e.s ++ be 1 e.w
  | .bins => be 2 p.gates.nb
  | .corr => let e := look p.corr i { m := 0, k := 0 }; be 2 e.m ++ be 1 e.k
  | .thresh => let e := look p.thresh i { tc := 0, th := 0 }; be 4 e.tc ++ be 4 e.th
  | .head =>
    let e := look p.headTable i { allowed := false, eRef := 0, eMax := 0, cap := 0, drain := 0 }
    [byteOfBool e.allowed] ++ be 2 e.eRef ++ be 2 e.eMax ++ be 3 e.cap ++ be 2 e.drain
  | .cadence => be 2 p.cadence.slotPeriod ++ be 1 p.cadence.fireWidth ++ [byteOfBool p.cadence.run]
  | .arb => [p.arb.mode.code]
  | .camp =>
    let e := look p.campTable i CampEntry.reset
    [e.settings.kind.code] ++ be 2 e.shots ++ [if e.repeats = .continuous then 1 else 0, byteOfBool e.settings.sort]
      ++ be 2 e.settings.sortLo ++ be 2 e.settings.sortHi ++ [byteOfBool e.settings.sendProfile, byteOfBool e.autostart]
  | .finder =>
    be 1 p.finder.mIn ++ be 1 p.finder.mOut ++ be 2 p.finder.fogFloor ++ be 2 p.finder.ridge ++ be 5 p.finder.vvLimit
  | .tracker =>
    be 2 p.tracker.gate ++ be 1 p.tracker.shift ++ be 1 p.tracker.confirmHits ++ be 1 p.tracker.dropMisses
      ++ be 1 p.tracker.staleLimit

/-- A run of entries as stored. -/
def Part.runBytes (p : Part) (t : TableId) (start count : Nat) : List Byte :=
  ((List.range count).map fun j => p.entryBytes t (start + j)).flatten

/-! ### LOAD_TABLE and READ_TABLE -/

/-- The start index and entry count of a table payload, behind the id byte. -/
def loadStart (c : Command) : Nat := field c.payload 1 2
def loadCount (c : Command) : Nat := field c.payload 3 2

/-- Steps 2 and 3 of R150: the table, if the id names one and the run lies inside it. -/
def tableRun (c : Command) : Option TableId :=
  match tableOf (field c.payload 0 1) with
  | some t => if loadCount c ≠ 0 ∧ loadStart c + loadCount c ≤ tableEntries t then some t else none
  | none => none

/-- The entries of a LOAD_TABLE payload. -/
def loadEntries (c : Command) (t : TableId) : List (List Byte) :=
  splitEntries (tableSize t) (loadCount c) (c.payload.drop 5)

/-- The state condition of a table's load (step 5 of R150): R22 for CAMP, R60 for GATE and BINS. -/
def Part.loadBusy (p : Part) (c : Command) (t : TableId) : Bool :=
  match t with
  | .camp => !(List.finRange 4).all fun k =>
      !(decide (loadStart c ≤ k.val) && decide (k.val < loadStart c + loadCount c)) || decide (p.runs[k].state = .idle)
  | .gate | .bins => !p.atRest
  | _ => false

/-- The tables whose loads wait for the engine (R88). -/
def deferrable : TableId → Bool
  | .corr | .thresh | .finder | .tracker => true
  | _ => false

/-- An accepted load is written, and its OK reply carries the table id, start index and entry count (R150). -/
def Part.applyLoad (p : Part) (c : Command) (t : TableId) : Part :=
  (p.writeEntries t (loadStart c) (loadEntries c t)).answer c .ok (c.payload.take 5)

/-- LOAD_TABLE (R150, R88). -/
def Part.takeLoadTable (p : Part) (c : Command) : Part :=
  if c.payload.length < 5 then p.answer c .badParam []
  else
    match tableRun c with
    | none => p.answer c .badTable []
    | some t =>
      if c.payload.length ≠ 5 + loadCount c * tableSize t then p.answer c .badParam []
      else if p.loadBusy c t then p.answer c .busy []
      else
        match firstFaulty t (loadStart c) (loadEntries c t) with
        | some i => p.answer c .badParam (be 2 i)
        | none =>
          if deferrable t && p.engine.inHand.isSome then { p with link := { p.link with held := some (.deferredLoad c t) } }
          else p.applyLoad c t

/-- READ_TABLE (R151). -/
def Part.takeReadTable (p : Part) (c : Command) : Part :=
  match tableRun c with
  | none => p.answer c .badTable []
  | some t =>
    if loadCount c * tableSize t > 2091 then p.answer c .badParam []
    else p.answer c .ok (c.payload.take 5 ++ p.runBytes t (loadStart c) (loadCount c))

end Sys2Proof.Machine
end

