-- ==== Sys2Proof/Machine/Arithmetic.lean ====
section
/-! DEFINITION. Profile Arithmetic (R78 to R83): the four stages of a bin and the profile of a bank with its flags. -/

namespace Sys2Proof.Machine

/-- Stage 1 (R80): the background-subtracted mean of a bin, from its sum, its width, the pre-trigger sum and the number of
accepted shots. -/
def stage1 (a w pre n : Nat) : Int := roundDiv (4 * (64 * (a : Int) - (w : Int) * (pre : Int))) (w * n)

/-- Stage 2 (R81): the dark value is subtracted when the reference was VALID, and the difference clamped. -/
def stage2 (dark : DarkRef) (i : Nat) (s : Int) : Int :=
  if dark.state = .valid then clampInt (-4194304) 4194303 (s - look dark.values i 0) else s

/-- The gain numerator of stage 3 (R82). -/
def gainOf (eRef n esum : Nat) : Nat := min (eRef * n) (4 * esum)

/-- Stage 3 (R82): scaling to the reference energy; unit gain when ESUM is 0. -/
def stage3 (eRef n esum : Nat) (u : Int) : Int :=
  if esum = 0 then u else roundDiv (u * (gainOf eRef n esum : Int)) esum

/-- Stage 4 before saturation (R83). -/
def stage4Raw (e : CorrEntry) (v : Int) : Int := roundDiv (v * (e.m : Int) * 2 ^ e.k) 1048576

/-- Stage 4 (R83): saturated to plus or minus 2,147,483,647. -/
def stage4 (e : CorrEntry) (v : Int) : Int := clampInt (-2147483647) 2147483647 (stage4Raw e v)

/-- The stage-1 value of bin i of a bank. -/
def Bank.signal (b : Bank) (g : Gates) (i : Nat) : Int := stage1 (look b.sums i 0) (g.entry i).w b.pre b.accepted

/-- The stage-3 value of bin i of a LIT bank. -/
def Bank.scaled (b : Bank) (g : Gates) (l : LitInputs) (i : Nat) : Int :=
  stage3 l.eRef b.accepted b.esum (stage2 l.dark i (b.signal g i))

/-- The CORR entry of a bin. -/
def corrAt (corr : Vector CorrEntry 512) (i : Nat) : CorrEntry := look corr i { m := 0, k := 0 }

/-- The attenuated backscatter of bin i of a LIT bank. -/
def Bank.beta (b : Bank) (g : Gates) (corr : Vector CorrEntry 512) (l : LitInputs) (i : Nat) : Int :=
  stage4 (corrAt corr i) (b.scaled g l i)

/-- Whether stage 4 saturates bin i. -/
def Bank.saturates (b : Bank) (g : Gates) (corr : Vector CorrEntry 512) (l : LitInputs) (i : Nat) : Bool :=
  decide (stage4Raw (corrAt corr i) (b.scaled g l i) < -2147483647) ||
    decide (2147483647 < stage4Raw (corrAt corr i) (b.scaled g l i))

/-- The profile flags of a LIT bank as their mask (R75, R81, R82, R83): EREF_HELD, DARK_NOT_APPLIED, ENERGY_UNKNOWN,
LOW_ENERGY, SATURATED from bit 0. -/
def Bank.profileFlags (b : Bank) (g : Gates) (corr : Vector CorrEntry 512) (l : LitInputs) : BitVec 16 :=
  maskOf 16
    [l.eRefHeld, decide (l.dark.state ≠ .valid), decide (b.esum = 0),
     decide (b.esum ≠ 0) && decide (4 * b.esum < l.eRef * b.accepted), (List.range g.nb).any (b.saturates g corr l)]

/-- The values a processed bank yields, one per active bin (R78): β for a LIT bank, stage 1 for a DARK one. -/
def Bank.values (b : Bank) (g : Gates) (corr : Vector CorrEntry 512) (lit : Option LitInputs) : List Int :=
  match lit with
  | some l => (List.range g.nb).map (b.beta g corr l)
  | none => (List.range g.nb).map (b.signal g)

end Sys2Proof.Machine
end

