-- ==== Sys2Proof/Machine/Finder.lean ====
section
/-! DEFINITION. Finding Layers (R97 to R118): the scan over the sort range, detections, sky state, vertical visibility and
haze top. The scan record lives only inside this computation (R100). -/

namespace Sys2Proof.Machine

/-- One bin of the sort range as the finder sees it (R94, R98): its heights and span in metres, β, clip flag and
thresholds. -/
structure BinView where
  index : Nat
  base : Nat
  top : Nat
  span : Nat
  beta : Int
  clipped : Bool
  tc : Nat
  th : Nat
  deriving DecidableEq, Repr

/-- Above threshold (R98). -/
def BinView.above (b : BinView) : Bool := b.clipped || decide ((b.tc : Int) ≤ b.beta)

/-- Below the release level, floor(T_c / 2) (R98). -/
def BinView.below (b : BinView) : Bool := !b.clipped && decide (b.beta < ((b.tc / 2 : Nat) : Int))

/-- A haze bin, and the evidence of penetration (R107, R113). -/
def BinView.haze (b : BinView) : Bool := decide (0 < b.th) && decide ((b.th : Int) ≤ b.beta)

/-! ### The scan -/

/-- The scan record (R100, R101). A run in RISING and a layer carry their base bin and the peak bin so far; IN_LAYER the
last bin taken; FALLING the candidate top, the run length, and the highest bin of the run, held until it ends. -/
inductive Scan where
  | clear
  | rising (base : BinView) (run : Nat) (peak : BinView)
  | inLayer (base last peak : BinView)
  | falling (base top : BinView) (run : Nat) (peak held : BinView)
  deriving DecidableEq, Repr

/-- A layer that has closed: its base, its closed top if the scan saw one, the peak bin over its extent (R103 to R105). -/
structure Layer where
  base : BinView
  top : Option BinView
  peak : BinView
  deriving DecidableEq, Repr

/-- The peak follows the scan: a later bin replaces it when its β is strictly greater (R105). -/
def higher (peak b : BinView) : BinView := if peak.beta < b.beta then b else peak

/-- A run of bins above threshold stands at `run`; at m_in the layer opens (R102). -/
def Scan.rise (mIn : Nat) (base b : BinView) (run : Nat) (peak : BinView) : Scan :=
  if run ≥ mIn then .inLayer base b peak else .rising base run peak

/-- A run of bins below the release level stands at `run`; at m_out the layer closes with its candidate top (R103). -/
def Scan.fall (mOut : Nat) (base top : BinView) (run : Nat) (peak held : BinView) : Scan × Option Layer :=
  if run ≥ mOut then (.clear, some { base := base, top := some top, peak := peak }) else (.falling base top run peak held, none)

/-- One bin acts on the scan record (R102, R103, R105); a layer may close. -/
def Scan.step (f : FinderEntry) (sc : Scan) (b : BinView) : Scan × Option Layer :=
  match sc with
  | .clear => (if b.above then Scan.rise f.mIn b b 1 b else .clear, none)
  | .rising base run peak => (if b.above then Scan.rise f.mIn base b (run + 1) (higher peak b) else .clear, none)
  | .inLayer base last peak =>
    if b.below then Scan.fall f.mOut base last 1 peak b else (.inLayer base b (higher peak b), none)
  | .falling base top run peak held =>
    if b.below then Scan.fall f.mOut base top (run + 1) peak (higher held b)
    else (.inLayer base b (higher (higher peak held) b), none)

/-- The end of the range (R104): an open layer closes with its top absent. -/
def Scan.finish : Scan → Option Layer
  | .clear => none
  | .rising _ _ _ => none
  | .inLayer base _ peak => some { base := base, top := none, peak := peak }
  | .falling base _ _ peak held => some { base := base, top := none, peak := higher peak held }

/-- Every layer the scan closes, in order (R101 to R104). -/
def scanFrom (f : FinderEntry) : Scan → List BinView → List Layer
  | sc, [] => sc.finish.toList
  | sc, b :: rest => (sc.step f b).2.toList ++ scanFrom f (sc.step f b).1 rest

/-! ### Detections -/

/-- A detection (R106). -/
structure Detection where
  baseBin : Nat
  base : Nat
  topBin : Option Nat
  top : Option Nat
  peak : Int
  cls : LayerClass
  flags : LayerFlags
  deriving DecidableEq, Repr

/-- The penetration test (R107): a closed top is kept when a bin above it, up to sort_hi, shows return. -/
def keptTop (bins : List BinView) (l : Layer) : Option BinView :=
  match l.top with
  | some t => if bins.any (fun b => decide (t.index < b.index) && b.haze) then some t else none
  | none => none

/-- A bin lies in the bounds of a detection: from its base to its top, or to sort_hi when it has none (R108). -/
def inExtent (base : BinView) (top : Option BinView) (b : BinView) : Bool :=
  decide (base.index ≤ b.index) && (match top with | some t => decide (b.index ≤ t.index) | none => true)

/-- A recorded layer as a detection (R106 to R108). -/
def detect (f : FinderEntry) (bins : List BinView) (l : Layer) : Detection :=
  let top := keptTop bins l
  { baseBin := l.base.index
    base := l.base.base
    topBin := top.map BinView.index
    top := top.map BinView.top
    peak := l.peak.beta
    cls := if l.base.base ≤ f.fogFloor then .fog else .cloud
    flags :=
      { topSeen := top.isSome
        clipped := bins.any fun b => inExtent l.base top b && b.clipped
        belowRidge := decide (l.base.base < f.ridge) } }

/-! ### The summary -/

/-- Most detections a list holds (R109). -/
def maxDetections : Nat := 12

/-- Sky state (R110). -/
def skyOf : List Detection → SkyState
  | [] => .clear
  | d :: _ => if d.cls = .fog ∧ d.top = none then .obscured else .layers

/-- Vertical visibility and VV_LIMITED (R111, R112): the running integral, from the bottom, meets vv_limit. `last` is the
top height of the bin below. -/
def visibility (limit : Nat) : Nat → Nat → List BinView → Nat × Bool
  | _, last, [] => (last, true)
  | sum, _, b :: rest =>
    let sum' := sum + b.beta.toNat * b.span
    if limit ≤ sum' then (b.top, false) else visibility limit sum' b.top rest

/-- The haze top above a haze bin whose top height is `prev`, behind `run` clear bins (R114). -/
def hazeFrom (mOut : Nat) : Nat → Nat → List BinView → Option Nat
  | _, _, [] => none
  | prev, run, b :: rest =>
    if b.haze then hazeFrom mOut b.top 0 rest
    else if run + 1 ≥ mOut then some prev
    else hazeFrom mOut prev (run + 1) rest

/-- The haze top of a search span (R113). -/
def hazeTop (mOut : Nat) : List BinView → Option Nat
  | [] => none
  | b :: rest => if b.haze then hazeFrom mOut b.top 0 rest else none

/-- What the finder hands to the sorting pass beside the source of the profile (R115). -/
structure Findings where
  detections : List Detection
  sky : SkyState
  vv : Option Nat
  vvLimited : Bool
  haze : Option Nat
  layerLimit : Bool
  deriving DecidableEq, Repr

/-- The search span of the haze top (R113): below the base bin of the lowest detection, or the whole range. -/
def hazeSpan (bins : List BinView) : List Detection → List BinView
  | [] => bins
  | d :: _ => bins.filter fun b => decide (b.index < d.baseBin)

/-- The finder's work on one sort range (R100 to R115). -/
def findLayers (f : FinderEntry) (bins : List BinView) : Findings :=
  let layers := scanFrom f .clear bins
  let dets := (layers.take maxDetections).map (detect f bins)
  let sky := skyOf dets
  let vis := visibility f.vvLimit 0 0 bins
  { detections := dets
    sky := sky
    vv := if sky = .obscured then some vis.1 else none
    vvLimited := decide (sky = .obscured) && vis.2
    haze := hazeTop f.mOut (hazeSpan bins dets)
    layerLimit := decide (maxDetections < layers.length) }

/-- The bins of a bank's sort range (R94, R98). -/
def binViews (g : Gates) (thresh : Vector ThreshEntry 512) (b : Bank) (values : List Int) : List BinView :=
  (List.range (b.settings.sortHi + 1 - b.settings.sortLo)).map fun j =>
    let i := b.settings.sortLo + j
    let t := look thresh i { tc := 2147483647, th := 0 }
    { index := i, base := g.base i, top := g.top i, span := g.span i, beta := values.getD i 0
      clipped := look b.clipMap i false, tc := t.tc, th := t.th }

end Sys2Proof.Machine
end

