-- ==== Sys2Proof/Machine/Tracks.lean ====
section
/-! DEFINITION. The Track Table and the Sky Report (R119 to R137): the sorting pass, the report, TRACK_CLEAR and
READ_TRACKS. -/

namespace Sys2Proof.Machine

/-! ### Matching (R122) -/

/-- The distance of a track to a height. -/
def Track.distance (t : Track) (h : Nat) : Nat := max t.base h - min t.base h

/-- A candidate is preferred to another: smaller distance, then lower base, then lower id. -/
def nearer (h : Nat) (a b : Track) : Bool :=
  decide (a.distance h < b.distance h) ||
    (decide (a.distance h = b.distance h) &&
      (decide (a.base < b.base) || (decide (a.base = b.base) && decide (a.id < b.id))))

/-- The preferred candidate within the gate. -/
def bestMatch (gate h : Nat) : List Track → Option Track
  | [] => none
  | t :: rest =>
    match bestMatch gate h rest with
    | none => if t.distance h ≤ gate then some t else none
    | some u => if t.distance h ≤ gate && nearer h t u then some t else some u

/-- A matched track is updated from its detection (R123, R124), in the pass `sp` of campaign `c`. -/
def Track.matched (t : Track) (e : TrackerEntry) (c : Fin 4) (sp : Nat) (d : Detection) : Track :=
  let hits := min (t.hits + 1) 255
  { t with
    state := if t.state = .tentative ∧ hits < e.confirmHits then .tentative else .confirmed
    owner := c
    base := ((t.base : Int) + roundDiv ((d.base : Int) - (t.base : Int)) (2 ^ e.shift)).toNat
    top := d.top
    cls := d.cls
    flags := d.flags
    peak := d.peak
    hits := hits
    misses := 0
    lastPass := sp }

/-- What matching leaves (R122): the tracks not matched, the tracks matched and updated, the detections left over. -/
structure Matching where
  rest : List Track
  fresh : List Track
  unmatched : List Detection
  deriving DecidableEq, Repr

/-- Matching, detection by detection in list order (R122). -/
def matchAll (e : TrackerEntry) (c : Fin 4) (sp : Nat) : List Detection → Matching → Matching
  | [], m => m
  | d :: ds, m =>
    match bestMatch e.gate d.base m.rest with
    | some t => matchAll e c sp ds { m with rest := m.rest.erase t, fresh := m.fresh ++ [t.matched e c sp d] }
    | none => matchAll e c sp ds { m with unmatched := m.unmatched ++ [d] }

/-! ### Creation (R125, R126) -/

/-- The value after an id, 255 followed by 1. -/
def idAfter (i : Nat) : Nat := if i ≥ 255 then 1 else i + 1

/-- The first id from `i` on that no listed track holds. -/
def freeId (ts : List Track) : Nat → Nat → Nat
  | 0, i => i
  | n + 1, i => if ts.any (fun t => t.id = i) then freeId ts n (idAfter i) else i

/-- A new track (R125). -/
def Track.new (id : Nat) (e : TrackerEntry) (c : Fin 4) (sp : Nat) (d : Detection) : Track :=
  { id := id, state := if e.confirmHits = 1 then .confirmed else .tentative, owner := c, base := d.base, top := d.top
    cls := d.cls, flags := d.flags, peak := d.peak, hits := 1, misses := 0, lastPass := sp }

/-- One COASTING track is the victim rather than another: more misses, then higher base, then higher id (R126). -/
def rather (a b : Track) : Bool :=
  decide (b.misses < a.misses) ||
    (decide (a.misses = b.misses) && (decide (b.base < a.base) || (decide (a.base = b.base) && decide (b.id < a.id))))

/-- The victim among the COASTING tracks (R126). -/
def victim : List Track → Option Track
  | [] => none
  | t :: rest =>
    match victim rest with
    | none => if t.state = .coasting then some t else none
    | some u => if t.state = .coasting && rather t u then some t else some u

/-- Most tracks the table holds (R119). -/
def maxTracks : Nat := 8

/-- What creation works on: the old tracks still present, the tracks matched or created, the next-id counter, and whether
a detection was discarded. -/
structure Creation where
  rest : List Track
  fresh : List Track
  nextId : Nat
  discarded : Bool
  deriving DecidableEq, Repr

/-- A new track for one detection, with its id from the next-id counter (R125). -/
def Creation.add (k : Creation) (e : TrackerEntry) (c : Fin 4) (sp : Nat) (d : Detection) : Creation :=
  let id := freeId (k.rest ++ k.fresh) maxTracks k.nextId
  { k with fresh := k.fresh ++ [Track.new id e c sp d], nextId := idAfter id }

/-- One unmatched detection (R125, R126): a place, a victim's place, or discarded. -/
def Creation.place (e : TrackerEntry) (c : Fin 4) (sp : Nat) (k : Creation) (d : Detection) : Creation :=
  if k.rest.length + k.fresh.length < maxTracks then k.add e c sp d
  else
    match victim k.rest with
    | some v => Creation.add { k with rest := k.rest.erase v } e c sp d
    | none => { k with discarded := true }

/-! ### Misses and age (R127, R128) -/

/-- A track of campaign c that was not matched is charged a miss; it may be deleted (R127). -/
def Track.missed (t : Track) (e : TrackerEntry) (c : Fin 4) : Option Track :=
  if t.owner ≠ c then some t
  else
    let misses := min (t.misses + 1) 15
    match t.state with
    | .tentative => none
    | .confirmed | .coasting =>
      if e.dropMisses ≤ misses then none else some { t with state := .coasting, misses := misses }

/-- A track is stale in the pass `sp` (R128). -/
def Track.stale (t : Track) (e : TrackerEntry) (sp : Nat) : Bool :=
  decide (e.staleLimit < (sp + 65536 - t.lastPass % 65536) % 65536)

/-- Steps 1 to 5 of a sorting pass (R121): the table after it, and whether a detection was discarded. -/
def Sky.pass (y : Sky) (e : TrackerEntry) (c : Fin 4) (ds : List Detection) : Sky × Bool :=
  let sp := (y.sp + 1) % 65536
  let m := matchAll e c sp ds { rest := y.tracks, fresh := [], unmatched := [] }
  let k := m.unmatched.foldl (Creation.place e c sp)
    { rest := m.rest, fresh := m.fresh, nextId := y.nextId, discarded := false }
  let kept := k.rest.filterMap (fun t => t.missed e c) ++ k.fresh
  ({ tracks := kept.filter (fun t => !t.stale e sp), nextId := k.nextId, sp := sp }, k.discarded)

/-! ### The report (R130 to R132) -/

/-- A list with one track put in its place by base, then id. -/
def insertByBase (t : Track) : List Track → List Track
  | [] => [t]
  | u :: rest =>
    if t.base < u.base ∨ (t.base = u.base ∧ t.id ≤ u.id) then t :: u :: rest else u :: insertByBase t rest

/-- Tracks by ascending base, ties by ascending id (R131). -/
def sortByBase (ts : List Track) : List Track := ts.foldr insertByBase []

/-- The tracks a report may list (R131). -/
def reportable (ts : List Track) : List Track := sortByBase (ts.filter fun t => t.state ≠ .tentative)

/-- A track as a report entry (R131). -/
def Track.entry (t : Track) : ReportEntry :=
  { id := t.id, state := t.state, cls := t.cls, flags := t.flags, base := t.base, top := t.top, peak := t.peak }

/-- Most layers a report lists (R131). -/
def maxLayers : Nat := 5

/-- Masks of the summary flags beyond the profile flags: LAYER_LIMIT, VV_LIMITED, MORE, REPLACED_BEFORE (R171). -/
def layerLimitMask : BitVec 16 := 0x0020
def vvLimitedMask : BitVec 16 := 0x0040
def moreMask : BitVec 16 := 0x0080
def replacedMask : BitVec 16 := 0x0100

/-- The report of a sorting pass (R130, R131), before REPLACED_BEFORE. -/
def buildReport (c : Fin 4) (b : Bank) (profileFlags : BitVec 16) (f : Findings) (y : Sky) : Report :=
  let qualifying := reportable y.tracks
  { campaign := c
    sequence := b.sequence
    lastTick := b.lastTick
    sky := f.sky
    vv := f.vv
    haze := f.haze
    summary := profileFlags ||| (if f.layerLimit then layerLimitMask else 0) ||| (if f.vvLimited then vvLimitedMask else 0)
      ||| (if maxLayers < qualifying.length then moreMask else 0)
    layers := (qualifying.take maxLayers).map Track.entry }

/-- A report joins the REPORT queue; a full queue loses its oldest, the new report carries REPLACED_BEFORE, and
REPORT_REPLACED rises (R132). -/
def Part.placeReport (p : Part) (r : Report) : Part :=
  if p.link.reports.length < 2 then Part.kick { p with link := { p.link with reports := p.link.reports ++ [r] } }
  else
    Part.raise
      (Part.kick { p with link := { p.link with
        reports := p.link.reports.drop 1 ++ [{ r with summary := r.summary ||| replacedMask }] } })
      .reportReplaced

/-- A sorting pass (R121): the table is updated, TRACK_FULL rises when a detection was discarded (R126), and the report is
placed. -/
def Part.sortingPass (p : Part) (c : Fin 4) (b : Bank) (profileFlags : BitVec 16) (f : Findings) : Part :=
  let (y, discarded) := p.sky.pass p.tracker c f.detections
  let q := { p with sky := y }
  let r := if discarded then q.raise .trackFull else q
  r.placeReport (buildReport c b profileFlags f y)

/-! ### Commands -/

/-- The track table is emptied and the next-id counter set to 1; SP stays (R134). -/
def Part.clearTracks (p : Part) : Part := { p with sky := { p.sky with tracks := [], nextId := 1 } }

/-- TRACK_CLEAR (R134, R88). -/
def Part.takeTrackClear (p : Part) (c : Command) : Part :=
  if p.engine.inHand.isSome then { p with link := { p.link with held := some (.deferredClear c) } }
  else p.clearTracks.answer c .ok []

/-- A list with one track put in its place by id. -/
def insertById (t : Track) : List Track → List Track
  | [] => [t]
  | u :: rest => if t.id ≤ u.id then t :: u :: rest else u :: insertById t rest

/-- Tracks by ascending id (R135). -/
def sortById (ts : List Track) : List Track := ts.foldr insertById []

/-- The data of the READ_TRACKS reply (R135, R172). -/
def Sky.layout (y : Sky) : List Byte :=
  be 2 y.sp ++ [byte y.nextId, byte y.tracks.length] ++ ((sortById y.tracks).map Track.bytes).flatten

/-- READ_TRACKS (R135). -/
def Part.takeReadTracks (p : Part) (c : Command) : Part := p.answer c .ok p.sky.layout

end Sys2Proof.Machine
end

