-- ==== Sys2Proof/Machine/Engine.lean ====
section
/-! DEFINITION. The Profile Engine at profile complete (R77): results, profile frame, bank freed, deferred command, next
bank. -/

namespace Sys2Proof.Machine

/-! ### Results -/

/-- The dark reference takes a completed DARK bank's stage-1 values (R86). -/
def Part.writeDark (p : Part) (b : Fin 8) : Part :=
  { p with engine := { p.engine with dark :=
      { state := .valid
        values := tab 512 fun i => if i < p.gates.nb then p.banks[b].signal p.gates i else look p.engine.dark.values i 0
        source := some (ownerOf b, p.banks[b].sequence) } } }

/-- The values of the bank in hand (R78). -/
def Part.valuesInHand (p : Part) (h : InHand) : List Int := p.banks[h.bank].values p.gates p.corr h.lit

/-- The profile flags of the bank in hand; a DARK profile carries none (spec/05_profile_arithmetic.md, Profile flags). -/
def Part.flagsInHand (p : Part) (h : InHand) : BitVec 16 :=
  match h.lit with
  | some l => p.banks[h.bank].profileFlags p.gates p.corr l
  | none => 0

/-- What the finder finds in the bank in hand (R94). -/
def Part.findingsInHand (p : Part) (h : InHand) : Findings :=
  findLayers p.finder (binViews p.gates p.thresh p.banks[h.bank] (p.valuesInHand h))

/-- Step 1 of profile complete (R77, R78): a DARK bank writes the dark reference; a sorting bank runs a sorting pass. -/
def Part.results (p : Part) (h : InHand) : Part :=
  match h.lit with
  | none => p.writeDark h.bank
  | some _ =>
    if p.banks[h.bank].settings.sort then
      p.sortingPass (ownerOf h.bank) p.banks[h.bank] (p.flagsInHand h) (p.findingsInHand h)
    else p

/-! ### The profile frame -/

/-- The dark source a profile names: that of the reference, when it was applied (R81, R93). -/
def appliedSource : Option LitInputs → Option (Fin 4 × Nat)
  | some l => if l.dark.state = .valid then l.dark.source else none
  | none => none

/-- The content of the PROFILE frame of the bank in hand (R93). -/
def Part.profileInHand (p : Part) (h : InHand) : Profile :=
  let b := p.banks[h.bank]
  { campaign := ownerOf h.bank, kind := b.settings.kind, sequence := b.sequence, firstTick := b.firstTick
    lastTick := b.lastTick, accepted := b.accepted, fired := b.fired, rejected := b.rejected
    clippedShots := b.clippedShots, esum := b.esum, eRef := h.lit.map LitInputs.eRef, generation := p.gates.generation
    nb := p.gates.nb, flags := p.flagsInHand h, skipped := p.engine.skipped, darkSource := appliedSource h.lit
    values := p.valuesInHand h }

/-- A profile meets the profile out slot: copied into an empty one with the skipped count, which returns to 0 (R90), or
skipped at an occupied one, with PROFILE_SKIPPED (R91). -/
def Part.offerProfile (p : Part) (q : Profile) : Part :=
  match p.engine.slot with
  | .empty => Part.kick { p with engine := { p.engine with slot := .waiting q, skipped := 0 } }
  | _ => Part.raise { p with engine := { p.engine with skipped := min (p.engine.skipped + 1) 255 } } .profileSkipped

/-- Step 2 of profile complete (R77). -/
def Part.profileStep (p : Part) (h : InHand) (q : Profile) : Part :=
  if p.banks[h.bank].settings.sendProfile then p.offerProfile q else p

/-! ### Deferred commands and the whole event -/

/-- Step 4 of profile complete (R77, R89): a deferred command is applied, its reply OK queued, and the unit let go. -/
def Part.applyDeferred (p : Part) : Part :=
  match p.link.held with
  | some (.deferredLoad c t) => Part.applyLoad { p with link := { p.link with held := none } } c t
  | some (.deferredClear c) => (Part.clearTracks { p with link := { p.link with held := none } }).answer c .ok []
  | _ => p

/-- Step 5 of profile complete (R77): the engine becomes IDLE and begins the next bank, if one waits. -/
def Part.nextBank (p : Part) : Part := Part.beginNext { p with engine := { p.engine with inHand := none } }

/-- The five steps of profile complete, in order (R77). -/
def Part.completeProfile (p : Part) (h : InHand) : Part :=
  (((((p.results h).profileStep h (p.profileInHand h)).freeBank h.bank).applyDeferred)).nextBank

end Sys2Proof.Machine
end

