-- ==== Sys2Proof/Machine/SamplePort.lean ====
section
/-! DEFINITION. The Sample Port (R40 to R57) and the Accumulator (R67 to R69): lock, receiver, record, verdict, the end of
a shot and the adding of an accepted record. -/

namespace Sys2Proof.Machine

/-! ### The record -/

/-- The idle word between records and the word that begins one (R41). -/
def idleWord : Word16 := 0x0000
def syncWord : Word16 := 0x3C5A

/-- The word position of the last word taken; SYNC stands at position 1 (R46). -/
def Record.position (r : Record) : Nat := r.words.length

/-- The word at a position, 0 where none was good (R46). -/
def Record.wordAt (r : Record) (pos : Nat) : Word16 := ((r.words[pos - 1]?).join).getD 0

/-- Tag, DIG_FAULT, energy, sample count and pre-trigger count of a record (R46). -/
def Record.tag (r : Record) : Byte := (r.wordAt 2).setWidth 8
def Record.digFault (r : Record) : Bool := (r.wordAt 2).getLsbD 8
def Record.energy (r : Record) : Nat := (r.wordAt 3).toNat
def Record.sampleCount (r : Record) : Nat := (r.wordAt 4).toNat
def Record.preCount (r : Record) : Nat := (r.wordAt 5).toNat

/-- Sum of the `n` words from a position on. -/
def Record.sumFrom (r : Record) (pos n : Nat) : Nat :=
  (((r.words.drop (pos - 1)).take n).map (fun w => (w.getD 0).toNat)).sum

/-- Sum of range samples s to s + w - 1; range sample r stands at position 70 + r (R68). -/
def Record.binSum (r : Record) (g : GateEntry) : Nat := r.sumFrom (70 + g.s) g.w

/-- Sum of the 64 pre-trigger samples (R68). -/
def Record.preSum (r : Record) : Nat := r.sumFrom 6 64

/-- A bin holds a noted clipped sample (R54). -/
def Record.clipsBin (r : Record) (g : GateEntry) : Bool := r.clips.any fun i => decide (g.s ≤ i) && decide (i < g.s + g.w)

/-- The words of a record, SYNC to check word (R46). -/
def recordWords : Nat := 4102

/-- The sample value at full scale (R46). -/
def fullScale : Nat := 16383

/-- A new record, begun by SYNC (R45). -/
def Record.begun (bound : Binding) : Record :=
  { words := [some syncWord], sum := 0, corrupt := false, outOfRange := false, bound := bound, clips := [] }

/-- A word before the check word takes the next position (R46): a good word enters the sum and, as a sample, is tested
against full scale; a bad word sets the corrupt mark. -/
def Record.take (r : Record) (w : LineWord) : Record :=
  let pos := r.position + 1
  match w with
  | .bad => { r with words := r.words ++ [none], corrupt := true }
  | .good v =>
    { r with
      words := r.words ++ [some v]
      sum := r.sum + v
      outOfRange := r.outOfRange || (decide (6 ≤ pos) && decide (fullScale < v.toNat))
      clips := if 70 ≤ pos ∧ v.toNat = fullScale then r.clips ++ [pos - 70] else r.clips }

/-- The record's sum matches its check word (R47). -/
def Record.sumMatches (r : Record) (checkWord : LineWord) : Bool :=
  match checkWord with
  | .good v => !r.corrupt && decide (v = r.sum)
  | .bad => false

/-- Check 2 of R48 fails. -/
def Record.formatBad (r : Record) : Bool :=
  decide (r.sampleCount ≠ 4096) || decide (r.preCount ≠ 64) || r.outOfRange

/-! ### Accumulation -/

/-- An accepted record is added to a bank (R68, R54), with the shot's kind and the slot tick count. -/
def Bank.add (b : Bank) (g : Gates) (r : Record) (kind : Kind) (tick : Nat) : Bank :=
  let clipped := fun i => decide (i < g.nb) && r.clipsBin (g.entry i)
  { b with
    sums := tab 512 fun i => look b.sums i 0 + (if i < g.nb then r.binSum (g.entry i) else 0)
    pre := b.pre + r.preSum
    esum := if kind = .lit then b.esum + r.energy else b.esum
    accepted := b.accepted + 1
    firstTick := if b.accepted + 1 = 1 then tick else b.firstTick
    lastTick := tick
    clipMap := tab 512 fun i => look b.clipMap i false || clipped i
    clippedShots := if (List.range g.nb).any clipped then bump16 b.clippedShots else b.clippedShots }

/-- The Accumulator adds a record to the target bank of the shot (R68). -/
def Part.accumulate (p : Part) (s : Shot) (r : Record) : Part :=
  p.setBank s.target (p.banks[s.target].add p.gates r s.kind p.ticks)

/-! ### The verdict -/

/-- An accepted record ends its shot (R53). -/
def Part.acceptShot (p : Part) (s : Shot) (r : Record) : Part :=
  ((((p.removeShot.chargeShot (some r.energy)).accumulate s r).countDown s.campaign)).setLastEnd
    (s.ended .accepted .none (some r.tag) (some r.energy))

/-- A record that passes checks 1 to 5 ends an abandoned shot (R52). -/
def Part.endAbandoned (p : Part) (s : Shot) (r : Record) : Part :=
  (p.removeShot.chargeShot (some r.energy)).setLastEnd (s.ended .abandoned .stop (some r.tag) (some r.energy))

/-- The trigger count is set to a received tag (R50). -/
def Part.resyncTag (p : Part) (tag : Byte) : Part := { p with arb := { p.arb with triggerCount := tag } }

/-- The record is judged at its check word (R48 to R53). -/
def Part.judge (p : Part) (r : Record) (checkWord : LineWord) : Part :=
  match r.bound, p.shot with
  | .inFlight, some s =>
    if !r.sumMatches checkWord then p.rejectShot s .check none none
    else if r.formatBad then p.rejectShot s .format (some r.tag) (some r.energy)
    else if r.digFault then p.rejectShot s .fault (some r.tag) (some r.energy)
    else if r.tag ≠ s.expectedTag then (p.rejectShot s .tag (some r.tag) (some r.energy)).resyncTag r.tag
    else if s.abandoned then p.endAbandoned s r
    else p.acceptShot s r
  | _, _ => p.raise .shotReject

/-! ### The receiver -/

/-- The receiver takes a state. -/
def Part.setRx (p : Part) (rx : PortRx) : Part := { p with port := { p.port with rx := rx } }

/-- What a record is bound to when its SYNC is taken (R45). -/
def Part.bindingNow (p : Part) : Binding := if p.shot.isSome then .inFlight else .none

/-- A word acts on the receiver (R44 to R46). -/
def Part.receiveWord (p : Part) (w : LineWord) : Part :=
  match p.port.rx with
  | .off => p
  | .settle n =>
    if w = .good idleWord then p.setRx (if n + 1 ≥ 4 then .hunt else .settle (n + 1)) else p.setRx (.settle 0)
  | .hunt =>
    match w with
    | .bad => p
    | .good v =>
      if v = syncWord then p.setRx (.record (Record.begun p.bindingNow))
      else if v = idleWord then p
      else p.setRx (.settle 0)
  | .record r =>
    if r.position + 1 ≥ recordWords then (p.setRx .hunt).judge r w else p.setRx (.record (r.take w))

/-! ### Lock -/

/-- The lock state takes a value. -/
def Part.setLock (p : Part) (l : Lock) : Part := { p with port := { p.port with lock := l } }

/-- The shot in flight, if there is one, ends rejected without energy (R43, R55). -/
def Part.loseShot (p : Part) (reason : ShotReason) : Part :=
  match p.shot with
  | some s => p.rejectShot s reason none none
  | none => p

/-- Loss of lock (R43): the record in progress is abandoned, the shot in flight ends LOST, the dark reference goes
STALE. -/
def Part.lockLoss (p : Part) : Part := ((p.setRx .off).loseShot .lost).staleDark

/-- One word event (R41): it acts on the lock state (R42) and then on the receiver. -/
def Part.takeWord (p : Part) (w : LineWord) : Part :=
  match p.port.lock, w with
  | .unlocked n, .good _ =>
    if n + 1 ≥ 16 then (((p.setLock (.locked 0)).raise .lockChange).setRx (.settle 0)).receiveWord w
    else p.setLock (.unlocked (n + 1))
  | .unlocked _, .bad => p.setLock (.unlocked 0)
  | .locked _, .good _ => (p.setLock (.locked 0)).receiveWord w
  | .locked n, .bad =>
    if n + 1 ≥ 4 then ((p.setLock (.unlocked 0)).raise .lockChange).lockLoss
    else (p.setLock (.locked (n + 1))).receiveWord w

/-- WORD_EVENT (R41). -/
def execWordEvent (w : LineWord) (s : State) : Host.Outcome State Fault Refusal :=
  .next { s with toPart := s.toPart.takeWord w }

/-- RECORD_TIMEOUT (R55): the shot in flight ends TIMEOUT. With the timer stopped nothing changes (log 2). -/
def execRecordTimeout (s : State) : Host.Outcome State Fault Refusal :=
  match s.port.timer with
  | some _ => .next { s with toPart := s.toPart.loseShot .timeout }
  | none => .next s

end Sys2Proof.Machine
end

