-- ==== Sys2Proof/Machine/SerialStore.lean ====
section
/-! DEFINITION. The serial store at its interface (R161): the six transactions the Table Store Controller uses, with the
bytes it sends and the bytes it receives, what the store does with each, and the steps of a write or erase (R163, R164). -/

namespace Sys2Proof.Machine

/-! ### Transactions -/

/-- The store transactions (R161). -/
inductive Transaction where
  | identification
  | statusRead
  | dataRead (addr count : Nat)
  | writeEnable
  | pageProgram (addr : Nat) (data : List Byte)
  | sectorErase (addr : Nat)
  deriving DecidableEq, Repr

/-- What the controller sends (R161): the command byte, then the address high byte first, then the data. -/
def Transaction.sends : Transaction → List Byte
  | .identification => [0x9F]
  | .statusRead => [0x05]
  | .dataRead addr _ => 0x03 :: be 2 addr
  | .writeEnable => [0x06]
  | .pageProgram addr data => 0x02 :: (be 2 addr ++ data)
  | .sectorErase addr => 0x20 :: be 2 addr

/-- How many bytes the controller clocks in (R161). -/
def Transaction.receives : Transaction → Nat
  | .identification => 3
  | .statusRead => 1
  | .dataRead _ count => count
  | .writeEnable | .pageProgram _ _ | .sectorErase _ => 0

/-- Bytes as the bits of the line: each byte most significant bit first (R161). -/
def lineBits (bs : List Byte) : List Bool := bs.flatMap fun b => [7, 6, 5, 4, 3, 2, 1, 0].map b.getLsbD

/-! ### What the store answers -/

/-- Three identification bytes count as an answer: neither all 0x00 nor all 0xFF (R161). -/
def identAnswers (i : BitVec 24) : Bool := i ≠ 0 && i ≠ 0xFFFFFF

/-- A store is present: when not busy it answers its identification read (R161). -/
def Store.answers (s : Store) : Bool := identAnswers s.ident

/-- A missing store leaves the line at its pull-up and returns 0xFF to everything (R161). -/
def Store.missing (s : Store) : Bool := s.ident = 0xFFFFFF

/-- A status read reports busy (R161): a present store while it is busy; a missing one as long as it is polled; a shorted
line never. -/
def Store.reportsBusy (s : Store) : Bool := if s.answers then s.busy else s.missing

/-- The status byte (R161): its lowest bit is the busy state, the others of a present store are free (log 28); 0xFF from a
missing store, 0x00 from a shorted line. -/
def Store.statusByte (s : Store) (n : Nat) : Byte :=
  if s.answers then Config.statusBits n ++ BitVec.ofBool s.busy
  else if s.missing then 0xFF else 0x00

/-- The three identification bytes (R161). What a present store answers while it is busy is free (log 12). -/
def Store.identBytes (s : Store) (n : Nat) : BitVec 24 := if s.answers && s.busy then Config.busyIdent n else s.ident

/-- The byte a data read returns (R161, R162): a missing store returns 0xFF and a shorted line 0x00; a store that may
still be busy returns a free value (log 9); otherwise the stored byte. `n` numbers the free value. -/
def Store.readByte (s : Store) (n a : Nat) : Byte :=
  if s.answers then (if s.busy then Config.busyStoreByte n else cellAt s.cells a)
  else if s.missing then 0xFF else 0x00

/-- The bytes the controller receives (R161); `n` numbers their free values. -/
def Store.reply (s : Store) (n : Nat) : Transaction → List Byte
  | .identification => be 3 (s.identBytes n).toNat
  | .statusRead => [s.statusByte n]
  | .dataRead addr count => (List.range count).map fun j => s.readByte (n + j) (addr + j)
  | .writeEnable | .pageProgram _ _ | .sectorErase _ => []

/-! ### What the store does -/

/-- The store reports, from now on, that it is not busy (R161). -/
def Store.idle (s : Store) : Store := { s with busy := false }

/-- What a present store does with a transaction it takes whole (R161): a program ANDs its bytes in, an erase sets its sector
to 0xFF, and either makes the store busy; the others change nothing in it (log 28). -/
def Store.accept (s : Store) (t : Transaction) : Store :=
  if s.answers then
    match t with
    | .pageProgram addr data => { s with busy := true, cells := programCells s.cells addr data }
    | .sectorErase addr => { s with busy := true, cells := eraseCells s.cells addr }
    | .identification | .statusRead | .dataRead _ _ | .writeEnable => s
  else s

/-- What a program or erase leaves of the cells when it is cut off, or left to the store: each byte concerned old or new, by
free choices numbered from `n` (R161, R163, log 10). -/
def Transaction.cutCells (m : List Host.Cell) (n : Nat) : Transaction → List Host.Cell
  | .pageProgram addr data => cutProgramCells m n addr data
  | .sectorErase addr => cutEraseCells m n addr
  | .identification | .statusRead | .dataRead _ _ | .writeEnable => m

/-! ### The four steps of a write or erase -/

/-- The transaction sent in a step of a write or erase that ends in `t` (R163, R164): polls of the status in steps 1 and 4, the
write enable in step 2, the program or erase in step 3. -/
def stepTransaction (t : Transaction) : StorePhase → Transaction
  | .busyWait | .completion => .statusRead
  | .writeEnable => .writeEnable
  | .program => t

/-- The steps in their order (R163). -/
def storeSteps : List StorePhase := [.busyWait, .writeEnable, .program, .completion]

/-- The transactions of a whole write or erase, a status read standing for its polls (R163, R164). -/
def fourSteps (t : Transaction) : List Transaction := storeSteps.map (stepTransaction t)

/-- The steps sent when the limit passes in a step: that one to its end, and no later one (R163). -/
def stepsThrough : StorePhase → List StorePhase
  | .busyWait => [.busyWait]
  | .writeEnable => [.busyWait, .writeEnable]
  | .program => [.busyWait, .writeEnable, .program]
  | .completion => storeSteps

/-- The transactions sent when the limit passes in a step (R163). -/
def sentAtTimeout (t : Transaction) (phase : StorePhase) : List Transaction := (stepsThrough phase).map (stepTransaction t)

/-- What a completed write or erase leaves in the store: step 1 found it not busy, it took the transactions of the steps, and
step 4 found it not busy again (R163, R164). -/
def Store.completed (s : Store) (t : Transaction) : Store := ((fourSteps t).foldl Store.accept s.idle).idle

/-- What a timeout leaves in a present store (R163). With nothing but status reads sent it is busy; with the write enable sent
it was not busy; a store that has been sent the program or erase is busy and may still complete it, so its bytes are as
`Transaction.cutCells` says (log 10). -/
def Store.timedOut (s : Store) (n : Nat) (t : Transaction) (phase : StorePhase) : Store :=
  if s.answers then
    match phase with
    | .busyWait => { s with busy := true }
    | .writeEnable => s.idle
    | .program | .completion => { s with busy := true, cells := t.cutCells s.cells n }
  else s

end Sys2Proof.Machine
end

