-- ==== Sys2Proof/Machine/StoreCtl.lean ====
section
/-! DEFINITION. The Table Store (R161 to R164) and the Loader (R165 to R170): the store commands and the ends of their
operations, the loader's reading of the store image, STORE_RELOAD, and the start-up sequence. -/

namespace Sys2Proof.Machine

/-! ### Store commands -/

/-- The Command Unit holds a command (R147). -/
def Part.hold (p : Part) (h : Held) : Part := { p with link := { p.link with held := some h } }

/-- STORE_READ (R162): held while the data read runs. -/
def Part.takeStoreRead (p : Part) (c : Command) : Part :=
  let addr := field c.payload 0 2
  let count := field c.payload 2 2
  if count = 0 ∨ 256 < count then p.answer c .badParam []
  else if Config.storeSize < addr + count then p.answer c .storeRange []
  else p.hold (.storeRead c.tag addr count)

/-- STORE_WRITE (R163): held while the four steps run. -/
def Part.takeStoreWrite (p : Part) (c : Command) : Part :=
  let addr := field c.payload 0 2
  let data := c.payload.drop 2
  if c.payload.length < 3 ∨ 258 < c.payload.length then p.answer c .badParam []
  else if Config.pageSize < addr % Config.pageSize + data.length then p.answer c .storeRange []
  else p.hold (.storeWrite c.tag addr data)

/-- STORE_ERASE (R164): held while the four steps run. -/
def Part.takeStoreErase (p : Part) (c : Command) : Part :=
  let addr := field c.payload 0 2
  if addr % Config.sectorSize ≠ 0 then p.answer c .storeRange []
  else p.hold (.storeErase c.tag addr)

/-- KIND of the three held store commands (R172). -/
def storeReadKind : Byte := 0x13
def storeWriteKind : Byte := 0x14
def storeEraseKind : Byte := 0x15

/-- The held command is let go. -/
def Part.release (p : Part) : Part := { p with link := { p.link with held := none } }

/-- The store takes a value. -/
def Part.setStore (p : Part) (st : Store) : Part := { p with store := st }

/-- The transactions a held store command sends from its beginning to its end, a status read standing for its polls: a read
does not poll (R162), a write or erase runs the four steps (R163, R164). -/
def Held.transactions : Held → List Transaction
  | .storeRead _ addr count => [.dataRead addr count]
  | .storeWrite _ addr data => fourSteps (.pageProgram addr data)
  | .storeErase _ addr => fourSteps (.sectorErase addr)
  | .deferredLoad _ _ | .deferredClear _ => []

/-- The bytes of a data read, numbered from the count of free values (R162, log 9). -/
def Part.readBytes (p : Part) (addr count : Nat) : List Byte := p.store.reply p.free (.dataRead addr count)

/-- The end of a STORE_READ (R162): OK with the address, the count and the bytes. -/
def Part.endStoreRead (p : Part) : Part :=
  match p.link.held with
  | some (.storeRead tag addr count) =>
    Part.placeReply { p.release with free := p.free + count }
      { tag := tag, kind := storeReadKind, code := .ok, data := be 2 addr ++ be 2 count ++ p.readBytes addr count }
  | _ => p

/-- The end of a STORE_WRITE within the limit (R163): the bytes are programmed, the store is not busy, the reply is OK with
the address and the byte count. A missing store never reports not busy (log 11). -/
def Part.endStoreWrite (p : Part) : Part :=
  match p.link.held with
  | some (.storeWrite tag addr data) =>
    if p.store.idle.reportsBusy then p
    else
      Part.placeReply (p.release.setStore (p.store.completed (.pageProgram addr data)))
        { tag := tag, kind := storeWriteKind, code := .ok, data := be 2 addr ++ be 2 data.length }
  | _ => p

/-- The end of a STORE_ERASE within the limit (R164). -/
def Part.endStoreErase (p : Part) : Part :=
  match p.link.held with
  | some (.storeErase tag addr) =>
    if p.store.idle.reportsBusy then p
    else
      Part.placeReply (p.release.setStore (p.store.completed (.sectorErase addr)))
        { tag := tag, kind := storeEraseKind, code := .ok, data := be 2 addr }
  | _ => p

/-- STORE_WRITE times out (R163): the reply is STORE_TIMEOUT. -/
def Part.timeoutStoreWrite (p : Part) (phase : StorePhase) : Part :=
  match p.link.held with
  | some (.storeWrite tag addr data) =>
    Part.placeReply
      (Part.setStore { p.release with free := p.free + data.length }
        (p.store.timedOut p.free (.pageProgram addr data) phase))
      { tag := tag, kind := storeWriteKind, code := .storeTimeout, data := [] }
  | _ => p

/-- STORE_ERASE times out (R164). -/
def Part.timeoutStoreErase (p : Part) (phase : StorePhase) : Part :=
  match p.link.held with
  | some (.storeErase tag addr) =>
    Part.placeReply
      (Part.setStore { p.release with free := p.free + Config.sectorSize }
        (p.store.timedOut p.free (.sectorErase addr) phase))
      { tag := tag, kind := storeEraseKind, code := .storeTimeout, data := [] }
  | _ => p

/-- The store after a device reset (R161): an operation that was running is cut off or runs on inside the store, and the
store may be busy (log 10). -/
def Part.storeAfterReset (p : Part) : Store :=
  match p.link.held with
  | some (.storeWrite _ addr data) => p.store.timedOut p.free (.pageProgram addr data) .program
  | some (.storeErase _ addr) => p.store.timedOut p.free (.sectorErase addr) .program
  | _ => p.store

/-- Device reset (R170): every block at its reset values, with the inputs as found; the store keeps its content. -/
def Part.deviceReset (p : Part) (straps : BitVec 2) (headPresent interlockOpen : Bool) : Part :=
  Part.atReset straps headPresent interlockOpen p.storeAfterReset (p.free + Config.storeSize)

/-- DEVICE_RESET (R170). -/
def execDeviceReset (straps : BitVec 2) (headPresent interlockOpen : Bool) (s : State) :
    Host.Outcome State Fault Refusal :=
  .next { s with toPart := s.toPart.deviceReset straps headPresent interlockOpen }

/-! ### The loader reads the image -/

/-- What the loader comes to next in the image: a burst that passes its checks, with the address behind it and the counts
after it, or the end of the run with its record. -/
inductive LoaderNext where
  | burst (t : TableId) (start : Nat) (entries : List (List Byte)) (next left applied : Nat)
  | finish (r : LoaderRecord)
  deriving DecidableEq, Repr

/-- The byte the loader reads at an address. -/
def Part.imageByte (p : Part) (a : Nat) : Byte := p.store.readByte (p.free + a) a

/-- A run of bytes the loader reads, as one data read. -/
def Part.imageBytes (p : Part) (a n : Nat) : List Byte := p.store.reply (p.free + a) (.dataRead a n)

/-- The loader's identification read is answered (R161, R166). What a store that is still busy answers is free (log 12). -/
def Part.identified (p : Part) : Bool := identAnswers (p.store.identBytes p.free)

/-- A run that ends with FAULT, at an address (R168). -/
def faultAt (reason : LoaderReason) (applied addr : Nat) : LoaderNext :=
  .finish { result := .fault, reason := some reason, applied := applied, faultAddr := some addr }

/-- A run that ends OK (R167) or EMPTY (R166). -/
def loaderOk (applied : Nat) : LoaderNext :=
  .finish { result := .ok, reason := none, applied := applied, faultAddr := none }
def loaderEmpty : LoaderNext := .finish { result := .empty, reason := none, applied := 0, faultAddr := none }

/-- A run whose store does not answer ends with FAULT, reason ABSENT (R166). -/
def loaderAbsent : LoaderNext :=
  .finish { result := .fault, reason := some .absent, applied := 0, faultAddr := none }

/-- The entries of a burst of `count` entries of table `t` behind the header at `addr` (R167, parts 2 and 3). -/
def Part.burstEntries (p : Part) (addr : Nat) (t : TableId) (start count left applied : Nat) : LoaderNext :=
  let next := addr + 5 + count * tableSize t
  if Config.storeSize < next then faultAt .overflow applied (Config.storeSize - 1)
  else
    let es := splitEntries (tableSize t) count (p.imageBytes (addr + 5) (count * tableSize t))
    match firstFaulty t start es with
    | some _ => faultAt .burst applied addr
    | none => .burst t start es next left (applied + 1)

/-- The next burst, or the end marker, from an address on (R167). -/
def Part.nextBurst (p : Part) (addr left applied : Nat) : LoaderNext :=
  match left with
  | 0 =>
    if Config.storeSize ≤ addr then faultAt .overflow applied (Config.storeSize - 1)
    else if p.imageByte addr = 0xA5 then loaderOk applied
    else faultAt .endMarker applied addr
  | left + 1 =>
    if Config.storeSize < addr + 5 then faultAt .overflow applied (Config.storeSize - 1)
    else
      let head := p.imageBytes addr 5
      match tableOf (field head 0 1) with
      | none => faultAt .burst applied addr
      | some t =>
        if field head 3 2 = 0 ∨ tableEntries t < field head 1 2 + field head 3 2 then faultAt .burst applied addr
        else p.burstEntries addr t (field head 1 2) (field head 3 2) left applied

/-- The opening of a run behind its busy wait (R166, steps 2 to 5). -/
def Part.openImage (p : Part) : LoaderNext :=
  if !p.identified then loaderAbsent
  else if p.imageByte 0 ≠ 0x5A then loaderEmpty
  else if p.imageByte 1 ≠ 0x01 then faultAt .format 0 1
  else p.nextBurst 3 (p.imageByte 2).toNat 0

/-- What the loader comes to next from a stage of its run. -/
def Part.loaderNext (p : Part) : LoaderStage → LoaderNext
  | .busyWait => p.openImage
  | .timedOut => p.openImage
  | .bursts addr left applied => p.nextBurst addr left applied

/-- The loader's stage, while it runs. -/
def Boot.stage : Boot → Option LoaderStage
  | .starting st => some st
  | .reloading st => some st
  | .headStep | .ready => none

/-- The operation of the Table Store Controller (R161). -/
inductive StoreOperation where
  | idle
  | read
  | write
  | erase
  | load
  deriving DecidableEq, Repr

/-- The operation that runs, read off the loader's stage and the held command (R161, log 17). -/
def Part.storeOperation (p : Part) : StoreOperation :=
  match p.boot.stage with
  | some _ => .load
  | none =>
    match p.link.held with
    | some (.storeRead _ _ _) => .read
    | some (.storeWrite _ _ _) => .write
    | some (.storeErase _ _) => .erase
    | some (.deferredLoad _ _) | some (.deferredClear _) | none => .idle

/-- The stage of a run that goes on. -/
def Boot.withStage (b : Boot) (st : LoaderStage) : Boot :=
  match b with
  | .starting _ => .starting st
  | .reloading _ => .reloading st
  | b => b

/-- In the busy wait a missing store reads busy until the 400 ms have passed (R166, log 11). -/
def Part.loaderWaits (p : Part) (st : LoaderStage) : Bool := decide (st = .busyWait) && p.store.idle.reportsBusy

/-- The busy wait is over: at its end the store reported not busy (R166). -/
def Part.waitOver (p : Part) (st : LoaderStage) : Part :=
  if st = .busyWait then p.setStore p.store.idle else p

/-- LOADER_BUSY_TIMEOUT (R166): the store still reads busy, and the identification read is run anyway. From here on the store
counts as busy: what it answers to that read, and to the data reads behind it, is free (log 12). -/
def Part.loaderTimeout (p : Part) : Part :=
  match p.boot.stage with
  | some .busyWait => { p with boot := p.boot.withStage .timedOut, store := { p.store with busy := true } }
  | _ => p

/-- LOADER_BUSY_TIMEOUT (R166). -/
def execLoaderBusyTimeout (s : State) : Host.Outcome State Fault Refusal :=
  .next { s with toPart := s.toPart.loaderTimeout }

/-- BURST_APPLY (R167): the next burst of the image, sound, is applied as an accepted load, without state conditions and
without deferral. Where the image does not have a sound burst next, no burst is applied and nothing changes (log 15). -/
def Part.applyBurst (p : Part) : Part :=
  match p.boot.stage with
  | none => p
  | some st =>
    if p.loaderWaits st then p
    else
      match (p.waitOver st).loaderNext st with
      | .burst t start es next left applied =>
        Part.writeEntries { p.waitOver st with boot := p.boot.withStage (.bursts next left applied) } t start es
      | .finish _ => p

/-- BURST_APPLY (R167). -/
def execBurstApply (s : State) : Host.Outcome State Fault Refusal :=
  .next { s with toPart := s.toPart.applyBurst }

/-! ### The end of a run and of the start-up sequence -/

/-- The part becomes READY and autostart runs, in one event (R170, R38). -/
def Part.becomeReady (p : Part) : Part := Part.autostart { p with boot := .ready }

/-- The head step at the end of the start-up loader run (R170): an UNVERIFIED head begins a conversion, otherwise the step
ends at once. -/
def Part.headStep (p : Part) : Part :=
  match p.head with
  | .unverified => { p with boot := .headStep, head := .measuring }
  | _ => p.becomeReady

/-- The flag of a loader result (R168). -/
def LoaderResult.flag : LoaderResult → Flag
  | .fault => .loaderFault
  | .none | .ok | .empty => .loaderDone

/-- Loader end (R168, R169, R170): the record is written, the flag raised, and the head step or READY follows. -/
def Part.endLoader (p : Part) (r : LoaderRecord) : Part :=
  let q := Part.raise { p with loaded := r, free := p.free + Config.storeSize } r.result.flag
  match p.boot with
  | .starting _ => q.headStep
  | .reloading _ => { q with boot := .ready }
  | .headStep | .ready => q

/-- LOADER_END: the run ends where the image ends it. While bursts are still to be applied nothing changes (log 15). -/
def Part.loaderEnd (p : Part) : Part :=
  match p.boot.stage with
  | none => p
  | some st =>
    if p.loaderWaits st then p
    else
      match (p.waitOver st).loaderNext st with
      | .finish r => (p.waitOver st).endLoader r
      | .burst _ _ _ _ _ _ => p

/-- LOADER_END (R168). -/
def execLoaderEnd (s : State) : Host.Outcome State Fault Refusal :=
  .next { s with toPart := s.toPart.loaderEnd }

/-- STORE_RELOAD (R169): BUSY unless every campaign is IDLE and every bank FREE; otherwise the reply, LOADING, and a
loader run. -/
def Part.takeStoreReload (p : Part) (c : Command) : Part :=
  if p.atRest then { p.answer c .ok [] with boot := .reloading .busyWait } else p.answer c .busy []

/-! ### Head events -/

/-- The head step of the start-up ends, when it is running (R170). -/
def Part.endHeadStep (p : Part) : Part :=
  match p.boot with
  | .headStep => p.becomeReady
  | _ => p

/-- A presence change (R14): a conversion in flight ends without a result, the head becomes UNVERIFIED or ABSENT, and
HEAD_CHANGE rises. -/
def Part.changePresence (p : Part) (appear : Bool) : Part :=
  Part.endHeadStep ((p.setHead (if appear then .unverified else .absent)).raise .headChange)

/-- PRESENCE_CHANGE (R14). -/
def execPresenceChange (appear : Bool) (s : State) : Host.Outcome State Fault Refusal :=
  .next { s with toPart := s.toPart.changePresence appear }

/-- The end of a conversion (R16): the head state from the measured resistance, and HEAD_DONE rises. -/
def Part.endConversion (p : Part) (ohms : Nat) : Part :=
  match p.head with
  | .measuring => Part.endHeadStep ((p.setHead (headOfOhms ohms)).raise .headDone)
  | _ => p

/-- CONVERSION_COMPLETE (R16). With no conversion in flight nothing changes (log 2). -/
def execConversionComplete (ohms : Nat) (s : State) : Host.Outcome State Fault Refusal :=
  .next { s with toPart := s.toPart.endConversion ohms }

end Sys2Proof.Machine
end

