-- ==== Sys2Proof/Machine/Status.lean ====
section
/-! DEFINITION. Status Unit commands, PING, READ_STATUS and WARM_RESTART (R149, R157 to R160). -/

namespace Sys2Proof.Machine

/-- PING (R149): more than 32 bytes are refused; the reply holds the part state and the bytes received. -/
def Part.takePing (p : Part) (c : Command) : Part :=
  if 32 < c.payload.length then p.answer c .badParam [] else p.answer c .ok (p.partState.code :: c.payload)

/-- The mask a two-byte field holds. -/
def maskField (bs : List Byte) : BitVec 16 := BitVec.ofNat 16 (ofBe bs)

/-- CLEAR_STATUS (R157). -/
def Part.takeClearStatus (p : Part) (c : Command) : Part :=
  let flags := p.status.flags &&& ~~~(maskField c.payload)
  Part.answer { p with status := { p.status with flags := flags } } c .ok (beMask flags)

/-- SET_NOTICES (R158). -/
def Part.takeSetNotices (p : Part) (c : Command) : Part :=
  if 1 < field c.payload 2 1 then p.answer c .badParam []
  else
    Part.answer { p with status := { p.status with
      enables := maskField (c.payload.take 2), global := decide (field c.payload 2 1 = 1) } } c .ok []

/-! ### READ_STATUS (R159) -/

/-- Offsets 22 to 32 of the status layout: the last shot end (R57). -/
def shotEndBytes : Option ShotEnd → List Byte
  | none => List.replicate 11 0
  | some e =>
    [1, e.outcome.code, e.reason.code, byte e.campaign, e.kind.code, e.expectedTag]
      ++ beOpt 1 (e.receivedTag.map BitVec.toNat) ++ beOpt 2 e.energy

/-- Offsets 41 to 48: the queued banks, places beyond the length 0. -/
def queueBytes (q : List (Fin 8)) : List Byte := ((q.map fun b : Fin 8 => byte b.val) ++ List.replicate 8 0).take 8

/-- The status layout, 57 bytes (R159, R172). -/
def Part.statusLayout (p : Part) : List Byte :=
  [p.partState.code, p.loaded.result.code] ++ beOpt 1 (p.loaded.reason.map LoaderReason.code)
    ++ [byte p.loaded.applied] ++ beOpt 2 p.loaded.faultAddr
    ++ beMask p.status.flags ++ beMask p.status.enables ++ [byteOfBool p.status.global] ++ beMask p.status.pendingSet
    ++ [p.link.rate.setWidth 8] ++ beOpt 1 (p.link.lastError.map LinkError.code)
    ++ [byte p.link.commands.length, byte p.link.replies.length]
    ++ [p.port.lock.code, p.port.rx.code] ++ shotEndBytes p.port.lastEnd
    ++ [byteOfBool p.gates.valid] ++ be 2 p.gates.nb ++ [byte p.gates.generation]
    ++ [byteOfBool p.engine.inHand.isSome] ++ beOpt 1 (p.engine.inHand.map fun h => h.bank.val)
    ++ [byte p.engine.queue.length] ++ queueBytes p.engine.queue
    ++ [p.engine.dark.state.code] ++ darkSourceBytes p.engine.dark.source
    ++ [byteOfBool (p.engine.slot ≠ .empty), byte p.engine.skipped, byte p.link.reports.length]

/-- READ_STATUS (R159). -/
def Part.takeReadStatus (p : Part) (c : Command) : Part := p.answer c .ok p.statusLayout

/-! ### WARM_RESTART (R160) -/

/-- A shot in flight ends as abandoned, with no energy (R40, R39); the record timer stops. -/
def Part.restartShot (p : Part) : Part :=
  match p.shot with
  | some s => (p.removeShot.chargeShot none).setLastEnd (s.ended .abandoned .restart none none)
  | none => { p with port := { p.port with timer := none } }

/-- A campaign after WARM_RESTART (R20). -/
def Run.restarted (r : Run) : Run := { r with state := .idle, held := false, remaining := 0 }

/-- The profile out slot after WARM_RESTART (R92): a waiting profile is discarded, a frame begun is sent whole. -/
def Slot.restarted : Slot → Slot
  | .sending => .sending
  | _ => .empty

/-- Campaigns, banks, engine, tracks and reports after WARM_RESTART (R39, R72, R95, R137). -/
def Part.restartMeasuring (p : Part) : Part :=
  { p with
    runs := #v[p.runs[0].restarted, p.runs[1].restarted, p.runs[2].restarted, p.runs[3].restarted]
    banks := Vector.replicate 8 Bank.cleared
    engine := { p.engine with inHand := none, queue := [], slot := p.engine.slot.restarted, skipped := 0 }
    sky := { tracks := [], nextId := 1, sp := 0 }
    link := { p.link with reports := [] } }

/-- The status flags after WARM_RESTART (R155). -/
def Part.restartFlags (p : Part) : Part := { p with status := { p.status with flags := 0, pendingSet := 0 } }

/-- WARM_RESTART (R160). -/
def Part.takeWarmRestart (p : Part) (c : Command) : Part :=
  p.restartShot.restartMeasuring.restartFlags.answer c .ok []

end Sys2Proof.Machine
end

