-- ==== Sys2Proof/Machine/CommandUnit.lean ====
section
/-! DEFINITION. The Command Unit (R145 to R148): the commands by KIND, the checks every command meets, the taking of
commands, and the meaning of each command's row. -/

namespace Sys2Proof.Machine

/-- The commands of R172. -/
inductive CommandKind where
  | ping
  | readStatus
  | clearStatus
  | setNotices
  | warmRestart
  | loadTable
  | readTable
  | start
  | stop
  | hold
  | resume
  | readCampaign
  | laserStop
  | laserRelease
  | measureHead
  | readLaser
  | trackClear
  | readTracks
  | storeRead
  | storeWrite
  | storeErase
  | storeReload
  deriving DecidableEq, Repr

/-- KIND values (R172). -/
def CommandKind.code : CommandKind → Byte
  | .ping => 0x01
  | .readStatus => 0x02
  | .clearStatus => 0x03
  | .setNotices => 0x04
  | .warmRestart => 0x05
  | .loadTable => 0x06
  | .readTable => 0x07
  | .start => 0x08
  | .stop => 0x09
  | .hold => 0x0A
  | .resume => 0x0B
  | .readCampaign => 0x0C
  | .laserStop => 0x0D
  | .laserRelease => 0x0E
  | .measureHead => 0x0F
  | .readLaser => 0x10
  | .trackClear => 0x11
  | .readTracks => 0x12
  | .storeRead => 0x13
  | .storeWrite => 0x14
  | .storeErase => 0x15
  | .storeReload => 0x16

/-- The command a KIND names (R172). -/
def commandOfKind (kind : Byte) : Option CommandKind :=
  match kind.toNat with
  | 0x01 => some .ping
  | 0x02 => some .readStatus
  | 0x03 => some .clearStatus
  | 0x04 => some .setNotices
  | 0x05 => some .warmRestart
  | 0x06 => some .loadTable
  | 0x07 => some .readTable
  | 0x08 => some .start
  | 0x09 => some .stop
  | 0x0A => some .hold
  | 0x0B => some .resume
  | 0x0C => some .readCampaign
  | 0x0D => some .laserStop
  | 0x0E => some .laserRelease
  | 0x0F => some .measureHead
  | 0x10 => some .readLaser
  | 0x11 => some .trackClear
  | 0x12 => some .readTracks
  | 0x13 => some .storeRead
  | 0x14 => some .storeWrite
  | 0x15 => some .storeErase
  | 0x16 => some .storeReload
  | _ => none

/-- The commands taken in LOADING (R146). -/
def takenInLoading : CommandKind → Bool
  | .ping | .readStatus | .clearStatus | .setNotices | .readTable | .readCampaign | .readLaser | .readTracks => true
  | .warmRestart | .loadTable | .start | .stop | .hold | .resume | .laserStop | .laserRelease | .measureHead
  | .trackClear | .storeRead | .storeWrite | .storeErase | .storeReload => false

/-- The payload length a command requires (R172); PING, LOAD_TABLE and STORE_WRITE have none. -/
def fixedLength : CommandKind → Option Nat
  | .ping | .loadTable | .storeWrite => none
  | .clearStatus | .storeErase => some 2
  | .setNotices => some 3
  | .storeRead => some 4
  | .readTable => some 5
  | .start | .stop | .hold | .resume | .readCampaign => some 1
  | .readStatus | .warmRestart | .laserStop | .laserRelease | .measureHead | .readLaser | .trackClear | .readTracks
  | .storeReload => some 0

/-- Checks 1 to 3 of R146: the command to carry out, or the code that refuses it. -/
def Part.judgeCommand (p : Part) (c : Command) : CommandKind ⊕ ResultCode :=
  match commandOfKind c.kind with
  | none => .inr .badKind
  | some k =>
    if p.partState = .loading ∧ takenInLoading k = false then .inr .notReady
    else
      match fixedLength k with
      | some n => if c.payload.length = n then .inl k else .inr .badParam
      | none => .inl k

/-- A command past checks 1 to 3 is carried out by its owner (R145, R146). -/
def Part.carryOut (p : Part) (c : Command) : CommandKind → Part
  | .ping => p.takePing c
  | .readStatus => p.takeReadStatus c
  | .clearStatus => p.takeClearStatus c
  | .setNotices => p.takeSetNotices c
  | .warmRestart => p.takeWarmRestart c
  | .loadTable => p.takeLoadTable c
  | .readTable => p.takeReadTable c
  | .start => p.takeStart c
  | .stop => p.takeStop c
  | .hold => p.takeHold c
  | .resume => p.takeResume c
  | .readCampaign => p.takeReadCampaign c
  | .laserStop => p.takeLaserStop c
  | .laserRelease => p.takeLaserRelease c
  | .measureHead => p.takeMeasureHead c
  | .readLaser => p.takeReadLaser c
  | .trackClear => p.takeTrackClear c
  | .readTracks => p.takeReadTracks c
  | .storeRead => p.takeStoreRead c
  | .storeWrite => p.takeStoreWrite c
  | .storeErase => p.takeStoreErase c
  | .storeReload => p.takeStoreReload c

/-- One command is taken (R145): judged, then carried out or refused. -/
def Part.perform (p : Part) (c : Command) : Part :=
  match p.judgeCommand c with
  | .inl k => p.carryOut c k
  | .inr code => p.answer c code []

/-- Most replies the REPLY queue holds, and most commands the command queue holds (R152, R144). -/
def maxReplies : Nat := 4
def maxCommands : Nat := 8

/-- The unit may take a command: it holds none and the REPLY queue has room (R145, conditions 1 and 3). -/
def Link.unitFree (l : Link) : Bool := l.held.isNone && decide (l.replies.length < maxReplies)

/-- The state of the Command Unit (R145). -/
inductive UnitState where
  | ready
  | held
  | stalled
  deriving DecidableEq, Repr

/-- READY, HELD or STALLED, read off the held command and the two queues (R145). -/
def Link.unitState (l : Link) : UnitState :=
  if l.held.isSome then .held
  else if l.commands ≠ [] ∧ maxReplies ≤ l.replies.length then .stalled
  else .ready

/-- The unit takes commands, at most `n`, as long as it may (R145). -/
def Part.drain : Nat → Part → Part
  | 0, p => p
  | n + 1, p =>
    match p.link.commands with
    | [] => p
    | c :: rest =>
      if p.link.unitFree then Part.drain n (Part.perform { p with link := { p.link with commands := rest } } c) else p

/-- The unit takes every command it may (R145). -/
def Part.takeCommands (p : Part) : Part := Part.drain p.link.commands.length p

/-- A command joins the command queue, or is dropped with CMD_DROPPED when the queue is full (R144); the unit takes it as
soon as it may (R145). -/
def Part.enqueue (p : Part) (c : Command) : Part :=
  if p.link.commands.length < maxCommands then
    Part.takeCommands { p with link := { p.link with commands := p.link.commands ++ [c] } }
  else p.raise .cmdDropped

/-- A link error (R143): the record is set to the reason, and LINK_ERROR rises. -/
def Part.linkError (p : Part) (reason : LinkError) : Part :=
  Part.raise { p with link := { p.link with lastError := some reason } } .linkError

/-- A frame whose CRC matches (R143): an outbound KIND is dropped as a link error, any other joins the command queue. -/
def Part.acceptFrame (p : Part) (c : Command) : Part :=
  if isOutbound c.kind then p.linkError .outboundKind else p.enqueue c

/-- A command row (log 1): its frame has been received whole with a matching CRC. -/
def deliver (c : Command) (s : State) : Host.Outcome State Fault Refusal :=
  .next { s with toPart := s.toPart.acceptFrame c }

/-! ### One meaning per command row -/

/-- PING (R149). -/
def execPing (tag : Byte) (payload : List Byte) (s : State) : Host.Outcome State Fault Refusal :=
  deliver { kind := CommandKind.ping.code, tag := tag, payload := payload } s

/-- READ_STATUS (R159). -/
def execReadStatus (tag : Byte) (payload : List Byte) (s : State) : Host.Outcome State Fault Refusal :=
  deliver { kind := CommandKind.readStatus.code, tag := tag, payload := payload } s

/-- CLEAR_STATUS (R157). -/
def execClearStatus (tag : Byte) (payload : List Byte) (s : State) : Host.Outcome State Fault Refusal :=
  deliver { kind := CommandKind.clearStatus.code, tag := tag, payload := payload } s

/-- SET_NOTICES (R158). -/
def execSetNotices (tag : Byte) (payload : List Byte) (s : State) : Host.Outcome State Fault Refusal :=
  deliver { kind := CommandKind.setNotices.code, tag := tag, payload := payload } s

/-- WARM_RESTART (R160). -/
def execWarmRestart (tag : Byte) (payload : List Byte) (s : State) : Host.Outcome State Fault Refusal :=
  deliver { kind := CommandKind.warmRestart.code, tag := tag, payload := payload } s

/-- LOAD_TABLE (R150). -/
def execLoadTable (tag : Byte) (payload : List Byte) (s : State) : Host.Outcome State Fault Refusal :=
  deliver { kind := CommandKind.loadTable.code, tag := tag, payload := payload } s

/-- READ_TABLE (R151). -/
def execReadTable (tag : Byte) (payload : List Byte) (s : State) : Host.Outcome State Fault Refusal :=
  deliver { kind := CommandKind.readTable.code, tag := tag, payload := payload } s

/-- START (R23). -/
def execStart (tag : Byte) (payload : List Byte) (s : State) : Host.Outcome State Fault Refusal :=
  deliver { kind := CommandKind.start.code, tag := tag, payload := payload } s

/-- STOP (R25). -/
def execStop (tag : Byte) (payload : List Byte) (s : State) : Host.Outcome State Fault Refusal :=
  deliver { kind := CommandKind.stop.code, tag := tag, payload := payload } s

/-- HOLD (R26). -/
def execHold (tag : Byte) (payload : List Byte) (s : State) : Host.Outcome State Fault Refusal :=
  deliver { kind := CommandKind.hold.code, tag := tag, payload := payload } s

/-- RESUME (R26). -/
def execResume (tag : Byte) (payload : List Byte) (s : State) : Host.Outcome State Fault Refusal :=
  deliver { kind := CommandKind.resume.code, tag := tag, payload := payload } s

/-- READ_CAMPAIGN (R37). -/
def execReadCampaign (tag : Byte) (payload : List Byte) (s : State) : Host.Outcome State Fault Refusal :=
  deliver { kind := CommandKind.readCampaign.code, tag := tag, payload := payload } s

/-- LASER_STOP (R11). -/
def execLaserStop (tag : Byte) (payload : List Byte) (s : State) : Host.Outcome State Fault Refusal :=
  deliver { kind := CommandKind.laserStop.code, tag := tag, payload := payload } s

/-- LASER_RELEASE (R12). -/
def execLaserRelease (tag : Byte) (payload : List Byte) (s : State) : Host.Outcome State Fault Refusal :=
  deliver { kind := CommandKind.laserRelease.code, tag := tag, payload := payload } s

/-- MEASURE_HEAD (R17). -/
def execMeasureHead (tag : Byte) (payload : List Byte) (s : State) : Host.Outcome State Fault Refusal :=
  deliver { kind := CommandKind.measureHead.code, tag := tag, payload := payload } s

/-- READ_LASER (R13). -/
def execReadLaser (tag : Byte) (payload : List Byte) (s : State) : Host.Outcome State Fault Refusal :=
  deliver { kind := CommandKind.readLaser.code, tag := tag, payload := payload } s

/-- TRACK_CLEAR (R134). -/
def execTrackClear (tag : Byte) (payload : List Byte) (s : State) : Host.Outcome State Fault Refusal :=
  deliver { kind := CommandKind.trackClear.code, tag := tag, payload := payload } s

/-- READ_TRACKS (R135). -/
def execReadTracks (tag : Byte) (payload : List Byte) (s : State) : Host.Outcome State Fault Refusal :=
  deliver { kind := CommandKind.readTracks.code, tag := tag, payload := payload } s

/-- STORE_READ (R162). -/
def execStoreRead (tag : Byte) (payload : List Byte) (s : State) : Host.Outcome State Fault Refusal :=
  deliver { kind := CommandKind.storeRead.code, tag := tag, payload := payload } s

/-- STORE_WRITE (R163). -/
def execStoreWrite (tag : Byte) (payload : List Byte) (s : State) : Host.Outcome State Fault Refusal :=
  deliver { kind := CommandKind.storeWrite.code, tag := tag, payload := payload } s

/-- STORE_ERASE (R164). -/
def execStoreErase (tag : Byte) (payload : List Byte) (s : State) : Host.Outcome State Fault Refusal :=
  deliver { kind := CommandKind.storeErase.code, tag := tag, payload := payload } s

/-- STORE_RELOAD (R169). -/
def execStoreReload (tag : Byte) (payload : List Byte) (s : State) : Host.Outcome State Fault Refusal :=
  deliver { kind := CommandKind.storeReload.code, tag := tag, payload := payload } s

/-- UNKNOWN_KIND_COMMAND (R146): a frame whose KIND names no command. -/
def execUnknownKindCommand (kind tag : Byte) (payload : List Byte) (s : State) : Host.Outcome State Fault Refusal :=
  deliver { kind := kind, tag := tag, payload := payload } s

end Sys2Proof.Machine
end

