-- ==== Sys2Proof/Machine/LinkEvents.lean ====
section
/-! DEFINITION. The events of the station link (R139 to R143, R153, R154), and the events that end a held command (R77, R162
to R164), after which the Command Unit takes its next command (R145). -/

namespace Sys2Proof.Machine

/-! ### The receiver -/

/-- The receiver of the link takes a state. -/
def Part.setLinkRx (p : Part) (rx : LinkRx) : Part := { p with link := { p.link with rx := rx } }

/-- A frame is abandoned (R141, R142): the receiver hunts again, and the error is recorded. -/
def Part.abandonFrame (p : Part) (reason : LinkError) : Part := (p.setLinkRx .hunt).linkError reason

/-- A LEN is judged (R141). -/
def Part.judgeLength (p : Part) (len : Nat) (crc : Word16) : Part :=
  if 2 ≤ len ∧ len ≤ 2100 then p.setLinkRx (.body len [] crc) else p.abandonFrame .length

/-- The command of a frame, from its bytes KIND, TAG and payload. -/
def commandOf (got : List Byte) : Command :=
  { kind := got.headD 0, tag := (got.drop 1).headD 0, payload := got.drop 2 }

/-- The second CRC byte completes a frame (R143). -/
def Part.completeFrame (p : Part) (got : List Byte) (field : Nat) (crc : Word16) : Part :=
  if field = crc.toNat then (p.setLinkRx .hunt).acceptFrame (commandOf got) else p.abandonFrame .crc

/-- A good byte acts on the receiver (R141). -/
def Part.goodByte (p : Part) (b : Byte) : Part :=
  match p.link.rx with
  | .startWait => p
  | .hunt => if b = marker then p.setLinkRx (.length none 0xFFFF#16) else p
  | .length none crc => p.setLinkRx (.length (some b) (crcByte crc b))
  | .length (some h) crc => p.judgeLength (h.toNat * 256 + b.toNat) (crcByte crc b)
  | .body len got crc =>
    if len ≤ got.length + 1 then p.setLinkRx (.check (got ++ [b]) none (crcByte crc b))
    else p.setLinkRx (.body len (got ++ [b]) (crcByte crc b))
  | .check got none crc => p.setLinkRx (.check got (some b) crc)
  | .check got (some h) crc => p.completeFrame got (h.toNat * 256 + b.toNat) crc

/-- A frame is being received: the receiver is in LENGTH, BODY or CHECK (R142). -/
def LinkRx.inFrame : LinkRx → Bool
  | .startWait | .hunt => false
  | .length _ _ | .body _ _ _ | .check _ _ _ => true

/-- One byte event (R141). -/
def Part.takeByte (p : Part) (b : LineByte) : Part :=
  match b with
  | .good v => p.goodByte v
  | .framingError => if p.link.rx.inFrame then p.abandonFrame .framing else p

/-- BYTE_EVENT (R141). -/
def execByteEvent (b : LineByte) (s : State) : Host.Outcome State Fault Refusal :=
  .next { s with toPart := s.toPart.takeByte b }

/-- GAP_TIMEOUT (R142). In HUNT and START_WAIT no gap is timed, and nothing changes (log 2). -/
def execGapTimeout (s : State) : Host.Outcome State Fault Refusal :=
  .next { s with toPart := if s.link.rx.inFrame then s.toPart.abandonFrame .gap else s.toPart }

/-- START_WAIT_END (R139): the receiver leaves START_WAIT for HUNT. -/
def execStartWaitEnd (s : State) : Host.Outcome State Fault Refusal :=
  .next { s with toPart := if s.link.rx = .startWait then s.toPart.setLinkRx .hunt else s.toPart }

/-! ### The end of a frame -/

/-- The last byte of a PROFILE frame has been sent: the profile out slot becomes empty (R92). -/
def Part.slotSent (p : Part) (f : OutFrame) : Part :=
  if f.kind = profileKind then { p with engine := { p.engine with slot := .empty } } else p

/-- The end of the frame being sent (R153): a frame boundary; then the Command Unit takes what it may (R154). -/
def Part.endFrame (p : Part) : Part :=
  match p.link.sending with
  | none => p
  | some f =>
    Part.takeCommands (Part.kick { p.slotSent f with link := { p.link with sending := none } })

/-- END_OF_FRAME (R153). With no frame being sent nothing changes (log 2). -/
def execEndOfFrame (s : State) : Host.Outcome State Fault Refusal :=
  .next { s with toPart := s.toPart.endFrame }

/-! ### The ends of held operations -/

/-- Profile complete, when a bank is in hand (R77, R89). -/
def Part.profileComplete (p : Part) : Part :=
  match p.engine.inHand with
  | some h => (p.completeProfile h).takeCommands
  | none => p

/-- PROFILE_COMPLETE (R77). With the engine IDLE nothing changes (log 2). -/
def execProfileComplete (s : State) : Host.Outcome State Fault Refusal :=
  .next { s with toPart := s.toPart.profileComplete }

/-- STORE_READ_COMPLETE (R162). -/
def execStoreReadComplete (s : State) : Host.Outcome State Fault Refusal :=
  .next { s with toPart := s.toPart.endStoreRead.takeCommands }

/-- STORE_WRITE_COMPLETE (R163). -/
def execStoreWriteComplete (s : State) : Host.Outcome State Fault Refusal :=
  .next { s with toPart := s.toPart.endStoreWrite.takeCommands }

/-- STORE_WRITE_TIMEOUT (R163). -/
def execStoreWriteTimeout (phase : StorePhase) (s : State) : Host.Outcome State Fault Refusal :=
  .next { s with toPart := (s.toPart.timeoutStoreWrite phase).takeCommands }

/-- STORE_ERASE_COMPLETE (R164). -/
def execStoreEraseComplete (s : State) : Host.Outcome State Fault Refusal :=
  .next { s with toPart := s.toPart.endStoreErase.takeCommands }

/-- STORE_ERASE_TIMEOUT (R164). -/
def execStoreEraseTimeout (phase : StorePhase) (s : State) : Host.Outcome State Fault Refusal :=
  .next { s with toPart := (s.toPart.timeoutStoreErase phase).takeCommands }

end Sys2Proof.Machine
end

