-- ==== Sys2Proof/Machine/Dispatch.lean ====
section
/-! DEFINITION. exec: one arm per row of the opcode table, each a direct call of that row's meaning. -/

namespace Sys2Proof.Machine

def exec (i : Instr) (s : State) : Host.Outcome State Fault Refusal :=
  match i with
  | .ping tag payload => Sys2Proof.Machine.execPing tag payload s
  | .readStatus tag payload => Sys2Proof.Machine.execReadStatus tag payload s
  | .clearStatus tag payload => Sys2Proof.Machine.execClearStatus tag payload s
  | .setNotices tag payload => Sys2Proof.Machine.execSetNotices tag payload s
  | .warmRestart tag payload => Sys2Proof.Machine.execWarmRestart tag payload s
  | .loadTable tag payload => Sys2Proof.Machine.execLoadTable tag payload s
  | .readTable tag payload => Sys2Proof.Machine.execReadTable tag payload s
  | .start tag payload => Sys2Proof.Machine.execStart tag payload s
  | .stop tag payload => Sys2Proof.Machine.execStop tag payload s
  | .hold tag payload => Sys2Proof.Machine.execHold tag payload s
  | .resume tag payload => Sys2Proof.Machine.execResume tag payload s
  | .readCampaign tag payload => Sys2Proof.Machine.execReadCampaign tag payload s
  | .laserStop tag payload => Sys2Proof.Machine.execLaserStop tag payload s
  | .laserRelease tag payload => Sys2Proof.Machine.execLaserRelease tag payload s
  | .measureHead tag payload => Sys2Proof.Machine.execMeasureHead tag payload s
  | .readLaser tag payload => Sys2Proof.Machine.execReadLaser tag payload s
  | .trackClear tag payload => Sys2Proof.Machine.execTrackClear tag payload s
  | .readTracks tag payload => Sys2Proof.Machine.execReadTracks tag payload s
  | .storeRead tag payload => Sys2Proof.Machine.execStoreRead tag payload s
  | .storeWrite tag payload => Sys2Proof.Machine.execStoreWrite tag payload s
  | .storeErase tag payload => Sys2Proof.Machine.execStoreErase tag payload s
  | .storeReload tag payload => Sys2Proof.Machine.execStoreReload tag payload s
  | .unknownKindCommand kind tag payload => Sys2Proof.Machine.execUnknownKindCommand kind tag payload s
  | .deviceReset straps headPresent interlockOpen => Sys2Proof.Machine.execDeviceReset straps headPresent interlockOpen s
  | .periodEnd => Sys2Proof.Machine.execPeriodEnd s
  | .trigPulseEnd => Sys2Proof.Machine.execTrigPulseEnd s
  | .firePulseEnd => Sys2Proof.Machine.execFirePulseEnd s
  | .interlockChange isOpen => Sys2Proof.Machine.execInterlockChange isOpen s
  | .presenceChange appear => Sys2Proof.Machine.execPresenceChange appear s
  | .conversionComplete ohms => Sys2Proof.Machine.execConversionComplete ohms s
  | .wordEvent word => Sys2Proof.Machine.execWordEvent word s
  | .recordTimeout => Sys2Proof.Machine.execRecordTimeout s
  | .profileComplete => Sys2Proof.Machine.execProfileComplete s
  | .startWaitEnd => Sys2Proof.Machine.execStartWaitEnd s
  | .byteEvent byte => Sys2Proof.Machine.execByteEvent byte s
  | .gapTimeout => Sys2Proof.Machine.execGapTimeout s
  | .endOfFrame => Sys2Proof.Machine.execEndOfFrame s
  | .storeReadComplete => Sys2Proof.Machine.execStoreReadComplete s
  | .storeWriteComplete => Sys2Proof.Machine.execStoreWriteComplete s
  | .storeWriteTimeout phase => Sys2Proof.Machine.execStoreWriteTimeout phase s
  | .storeEraseComplete => Sys2Proof.Machine.execStoreEraseComplete s
  | .storeEraseTimeout phase => Sys2Proof.Machine.execStoreEraseTimeout phase s
  | .loaderBusyTimeout => Sys2Proof.Machine.execLoaderBusyTimeout s
  | .burstApply => Sys2Proof.Machine.execBurstApply s
  | .loaderEnd => Sys2Proof.Machine.execLoaderEnd s

end Sys2Proof.Machine
end

