-- ==== Sys2Proof/Machine/LineCode.lean ====
section
/-! DEFINITION. The character format of the station link (R138): bytes as the levels of a wire, one level for each bit time, and
the receiver that turns sampled levels into the bytes BYTE_EVENT carries. -/

namespace Sys2Proof.Machine

/-- A level of a wire. The idle state is mark. -/
abbrev Level := Bool
def mark : Level := true
def space : Level := false

/-! ### Sending -/

/-- The eight data bits of a byte, least significant bit first. -/
def dataBits (b : Byte) : List Level := (List.range 8).map b.getLsbD

/-- A byte on the wire: one start bit, the data bits, no parity, one stop bit. -/
def characterBits (b : Byte) : List Level := space :: (dataBits b ++ [mark])

/-- An outbound frame on the wire, its bytes one after another. -/
def OutFrame.levels (f : OutFrame) : List Level := f.bytes.flatMap characterBits

/-! ### Receiving -/

/-- The receiver of a wire between two samples: idle, or past a start bit with the data bits sampled so far. -/
inductive CharRx where
  | idle
  | data (got : List Level)
  deriving DecidableEq, Repr

/-- The byte of eight data bits, the first the least significant. -/
def byteOfBits (bits : List Level) : Byte := byte (bits.foldr (fun b v => b.toNat + 2 * v) 0)

/-- A byte is complete when its stop bit has been sampled: good at mark, a framing error at space. -/
def lineByteOf (bits : List Level) (stop : Level) : LineByte := if stop = mark then .good (byteOfBits bits) else .framingError

/-- One sample of the wire. Space begins a byte on an idle receiver; after a stop bit the receiver is idle again, so that a
wire held at space gives one framing error for every byte time. -/
def CharRx.sample (rx : CharRx) (level : Level) : CharRx × Option LineByte :=
  match rx with
  | .idle => (if level = mark then .idle else .data [], none)
  | .data got => if got.length < 8 then (.data (got ++ [level]), none) else (.idle, some (lineByteOf got level))

/-- The complete bytes of a run of samples, in order. -/
def receiveFrom : CharRx → List Level → List LineByte
  | _, [] => []
  | rx, level :: rest => (rx.sample level).2.toList ++ receiveFrom (rx.sample level).1 rest

/-- The receiver of the link takes the bytes of a run of samples that begins with the wire idle (R138, R141). -/
def Part.takeLevels (p : Part) (levels : List Level) : Part := (receiveFrom .idle levels).foldl Part.takeByte p

end Sys2Proof.Machine
end

