-- ==== Sys2Proof/Machine/SymbolCode.lean ====
section
/-! DEFINITION. The line of the sample port (R41): symbols, the line decoder that makes a word of every two of them, and the
words it delivers to the port. The code itself is free (log 14). -/

namespace Sys2Proof.Machine

/-- What the line decoder takes for one symbol: the ten bits of a symbol it is aligned to, or what it finds on a line that
has slipped by part of a symbol, a code violation until the decoder has realigned (R41). -/
inductive LineSymbol where
  | aligned (bits : BitVec 10)
  | slipped
  deriving DecidableEq, Repr

/-- The byte whose set of valid symbols holds this one; none for a code violation (R41). -/
def LineSymbol.byte? : LineSymbol → Option Byte
  | .aligned s =>
    if (Config.symbolNumber s).toNat < 256 then some ((Config.symbolNumber s).setWidth 8) else Config.otherSymbol s
  | .slipped => none

/-- A valid symbol of a byte. -/
def symbolOf (b : Byte) : LineSymbol := .aligned (Config.symbolNumber.symm (b.setWidth 10))

/-- A word as the two symbols the digitizer sends, the high byte first (R41). -/
def wordSymbols (v : Word16) : List LineSymbol := [symbolOf (v.extractLsb' 8 8), symbolOf (v.extractLsb' 0 8)]

/-- The word of a pair of symbols: bad when either is a code violation, else good with the high byte first (R41). -/
def wordOfSymbols (hi lo : LineSymbol) : LineWord :=
  match hi.byte?, lo.byte? with
  | some a, some b => .good (a ++ b)
  | _, _ => .bad

/-- The words delivered for a run of symbols, one for each pair; a silent line has none and gives no word (R41). -/
def deliveredWords : List LineSymbol → List LineWord
  | hi :: lo :: rest => wordOfSymbols hi lo :: deliveredWords rest
  | _ => []

/-- The port takes each word delivered for a run of symbols (R41). -/
def Part.takeSymbols (p : Part) (symbols : List LineSymbol) : Part := (deliveredWords symbols).foldl Part.takeWord p

end Sys2Proof.Machine
end

