-- ==== Sys2Proof/Safety.lean ====
section
/-! DEFINITION. The terms the claims use: when a command is taken at once, the command a row delivers, and the invariants
that a safe run keeps. -/

namespace Sys2Proof.Machine

/-! ### Taking a command -/

/-- The Command Unit takes a command as soon as its frame is complete: it is free (R145) and no command waits. -/
def Part.takesAtOnce (p : Part) : Bool := p.link.unitFree && decide (p.link.commands = [])

/-- The outcome whose part is `p` with one reply placed (R148). -/
def answered (s : State) (p : Part) (c : Command) (code : ResultCode) (data : List Byte) :
    Host.Outcome State Fault Refusal :=
  .next { s with toPart := p.answer c code data }

/-- The command a row delivers, if it is a station command (R172). -/
def commandOfRow : Instr → Option Command
  | .ping tag p => some { kind := 0x01, tag := tag, payload := p }
  | .readStatus tag p => some { kind := 0x02, tag := tag, payload := p }
  | .clearStatus tag p => some { kind := 0x03, tag := tag, payload := p }
  | .setNotices tag p => some { kind := 0x04, tag := tag, payload := p }
  | .warmRestart tag p => some { kind := 0x05, tag := tag, payload := p }
  | .loadTable tag p => some { kind := 0x06, tag := tag, payload := p }
  | .readTable tag p => some { kind := 0x07, tag := tag, payload := p }
  | .start tag p => some { kind := 0x08, tag := tag, payload := p }
  | .stop tag p => some { kind := 0x09, tag := tag, payload := p }
  | .hold tag p => some { kind := 0x0A, tag := tag, payload := p }
  | .resume tag p => some { kind := 0x0B, tag := tag, payload := p }
  | .readCampaign tag p => some { kind := 0x0C, tag := tag, payload := p }
  | .laserStop tag p => some { kind := 0x0D, tag := tag, payload := p }
  | .laserRelease tag p => some { kind := 0x0E, tag := tag, payload := p }
  | .measureHead tag p => some { kind := 0x0F, tag := tag, payload := p }
  | .readLaser tag p => some { kind := 0x10, tag := tag, payload := p }
  | .trackClear tag p => some { kind := 0x11, tag := tag, payload := p }
  | .readTracks tag p => some { kind := 0x12, tag := tag, payload := p }
  | .storeRead tag p => some { kind := 0x13, tag := tag, payload := p }
  | .storeWrite tag p => some { kind := 0x14, tag := tag, payload := p }
  | .storeErase tag p => some { kind := 0x15, tag := tag, payload := p }
  | .storeReload tag p => some { kind := 0x16, tag := tag, payload := p }
  | .unknownKindCommand kind tag p => some { kind := kind, tag := tag, payload := p }
  | .deviceReset _ _ _ | .periodEnd | .trigPulseEnd | .firePulseEnd | .interlockChange _ | .presenceChange _
  | .conversionComplete _ | .wordEvent _ | .recordTimeout | .profileComplete | .startWaitEnd | .byteEvent _
  | .gapTimeout | .endOfFrame | .storeReadComplete | .storeWriteComplete | .storeWriteTimeout _
  | .storeEraseComplete | .storeEraseTimeout _ | .loaderBusyTimeout | .burstApply | .loaderEnd => none

/-! ### Words of the sample port -/

/-- The value of a word, which only a good one has (R41). -/
def wordValue : LineWord → Option Word16
  | .good v => some v
  | .bad => none

/-- How many bad words a run of words ends in (R42). -/
def badTail (ws : List LineWord) : Nat := (ws.reverse.takeWhile fun w => decide (w = .bad)).length

/-! ### The laser -/

/-- Everything R8 asks of the instant at which a FIRE pulse is produced: the part READY, the port LOCKED, the head
VERIFIED with an allowed row, the interlock closed, no latch, and the level after this tick's drain with room for E_max
below CAP. -/
def Part.mayFire (p : Part) : Prop :=
  p.partState = .ready ∧ p.port.isLocked = true ∧ p.interlockOpen = false ∧ p.overEnergy = false ∧ p.stopped = false ∧
    ∃ c : Fin 8, p.head = .verified c ∧ p.headTable[c].allowed = true ∧
      (p.bucket - p.headTable[c].drain) + p.headTable[c].eMax ≤ p.headTable[c].cap

/-! ### Invariants: banks, campaigns, shots -/

/-- Banks, campaigns and the profile queue agree (R24, R73, R74): bank 2k or 2k+1 is FILLING exactly when its campaign is
ACTIVE on it; the queue holds every CLOSED bank once and no other; the bank in hand is the one PROCESSING; an IDLE engine
has an empty queue. -/
def Part.banksAgree (p : Part) : Prop :=
  (∀ k : Fin 4, ∀ odd : Bool, p.banks[bankOf k odd].state = .filling ↔ p.runs[k].state = .active odd) ∧
  p.engine.queue.Nodup ∧
  (∀ b : Fin 8, b ∈ p.engine.queue ↔ p.banks[b].state = .closed) ∧
  (∀ b : Fin 8, p.banks[b].state = .processing ↔ p.engine.inHand.map InHand.bank = some b) ∧
  (p.engine.inHand = none → p.engine.queue = [])

/-- The shot in flight is a lit one. -/
def Part.litShot (p : Part) : Bool :=
  match p.shot with
  | some s => decide (s.kind = .lit)
  | none => false

/-- A shot that is not abandoned was granted into the filling bank of its campaign (R27, R67). -/
def Part.shotTargetsFilling (p : Part) : Prop :=
  match p.shot with
  | some s => s.abandoned = true ∨ p.fillingBank s.campaign = some s.target
  | none => True

/-- The receiver of the port fits its lock and its counts (R40, R42, R44, R46), and a record bound to the shot in flight has
one (R45). -/
def Part.receiverFits (p : Part) : Prop :=
  match p.port.rx with
  | .off => p.port.isLocked = false
  | .settle n => p.port.isLocked = true ∧ n < 4
  | .hunt => p.port.isLocked = true
  | .record r =>
    p.port.isLocked = true ∧ 1 ≤ r.position ∧ r.position < recordWords ∧ (r.bound = .inFlight → p.shot.isSome = true)

/-- Ranges of the runs of good and bad words (R40). -/
def Lock.inRange : Lock → Prop
  | .unlocked n => n < 16
  | .locked n => n < 4

/-- The shot in flight agrees with the timer, the pending charge, the lock and the banks (R9, R27, R43, R55, R67). -/
def Part.shotAgrees (p : Part) : Prop :=
  p.port.timer.isSome = p.shot.isSome ∧ p.pendingCharge.isSome = p.litShot ∧
  (p.port.isLocked = false → p.shot = none) ∧ p.shotTargetsFilling ∧ p.receiverFits ∧ p.port.lock.inRange

/-- No held command other than a load R88 defers writes a table (R88, R147). -/
def Part.deferralFits (p : Part) : Prop :=
  match p.link.held with
  | some (.deferredLoad _ t) => deferrable t = true
  | _ => True

/-- The counts of a campaign (R20, R32, R33): the remaining count is 0 in IDLE; in WAIT_BANK it is the shots value; in
ACTIVE it is at least 1 and, with the filling bank's accepted count, makes up the shots value. -/
def Part.runCounts (p : Part) (k : Fin 4) : Prop :=
  match p.runs[k].state with
  | .idle => p.runs[k].remaining = 0
  | .waitBank => p.runs[k].remaining = p.campTable[k].shots
  | .active odd =>
    1 ≤ p.runs[k].remaining ∧ p.runs[k].remaining + p.banks[bankOf k odd].accepted = p.campTable[k].shots

/-- A bank that has closed and is not yet freed holds at least one accepted record (R33, R78). -/
def Bank.closedFull (b : Bank) : Prop := b.state = .closed ∨ b.state = .processing → 1 ≤ b.accepted

/-- Campaigns, banks and shots count as R32 and R33 say, and no campaign runs outside READY (R165, R169). -/
def Part.countsAgree (p : Part) : Prop :=
  p.banksAgree ∧ p.shotAgrees ∧ p.deferralFits ∧ (∀ k : Fin 4, 1 ≤ p.campTable[k].shots ∧ p.runCounts k) ∧
  (∀ b : Fin 8, p.banks[b].closedFull) ∧ (p.partState = .loading → ∀ k : Fin 4, p.runs[k].state = .idle)

/-! ### Invariants: arbiter, tables, tracks, link, store -/

/-- The rotating list orders the four campaigns, each once (R29). -/
def Arbiter.ordered (a : Arbiter) : Prop := a.order.Perm resetOrder

/-- CADENCE ranges (R1, R2). -/
def Cadence.inRange (c : Cadence) : Prop :=
  200 ≤ c.slotPeriod ∧ c.slotPeriod ≤ 65535 ∧ 1 ≤ c.fireWidth ∧ c.fireWidth ≤ 20 ∧ c.fireWidth ≤ c.slotPeriod / 4

/-- HEAD row ranges (R18). -/
def HeadRow.inRange (r : HeadRow) : Prop :=
  1 ≤ r.eRef ∧ r.eRef ≤ 65535 ∧ 1 ≤ r.eMax ∧ r.eMax ≤ 65535 ∧ r.eMax ≤ r.cap ∧ r.cap ≤ 16777215 ∧ r.drain ≤ 65535

/-- CAMP ranges (R21). -/
def CampEntry.inRange (e : CampEntry) : Prop :=
  1 ≤ e.shots ∧ e.shots ≤ 65535 ∧ e.settings.sortLo ≤ 511 ∧ e.settings.sortHi ≤ 511 ∧
    ¬(e.settings.kind = .dark ∧ e.settings.sort = true)

/-- GATE, CORR and THRESH ranges (R58, R84, R97). -/
def GateEntry.inRange (e : GateEntry) : Prop := e.s ≤ 4031 ∧ 1 ≤ e.w ∧ e.w ≤ 64
def CorrEntry.inRange (e : CorrEntry) : Prop := e.m ≤ 65535 ∧ e.k ≤ 15
def ThreshEntry.inRange (e : ThreshEntry) : Prop := 1 ≤ e.tc ∧ e.tc ≤ 2147483647 ∧ e.th ≤ 2147483647

/-- FINDER ranges (R99). -/
def FinderEntry.inRange (e : FinderEntry) : Prop :=
  1 ≤ e.mIn ∧ e.mIn ≤ 8 ∧ 1 ≤ e.mOut ∧ e.mOut ≤ 8 ∧ e.fogFloor ≤ 1000 ∧ e.ridge ≤ 20160 ∧ 1 ≤ e.vvLimit ∧
    e.vvLimit < 1099511627776

/-- TRACKER ranges (R120). -/
def TrackerEntry.inRange (e : TrackerEntry) : Prop :=
  10 ≤ e.gate ∧ e.gate ≤ 2000 ∧ e.shift ≤ 4 ∧ 1 ≤ e.confirmHits ∧ e.confirmHits ≤ 15 ∧ 1 ≤ e.dropMisses ∧
    e.dropMisses ≤ 15 ∧ 1 ≤ e.staleLimit ∧ e.staleLimit ≤ 255

/-- A deferred load has passed its checks (R88, R150). -/
def Part.deferredChecked (p : Part) : Prop :=
  match p.link.held with
  | some (.deferredLoad c t) => tableRun c = some t ∧ firstFaulty t (loadStart c) (loadEntries c t) = none
  | _ => True

/-- Every table holds only what its rule lets it store (R2, R18, R21, R58, R59, R84, R97, R99, R120). -/
def Part.tablesInRange (p : Part) : Prop :=
  p.cadence.inRange ∧ (∀ c : Fin 8, p.headTable[c].inRange) ∧ (∀ k : Fin 4, p.campTable[k].inRange) ∧
  (∀ i : Fin 512, p.gates.table[i].inRange) ∧ p.gates.nb ≤ 512 ∧ p.gates.generation < 256 ∧
  (∀ i : Fin 512, p.corr[i].inRange) ∧ (∀ i : Fin 512, p.thresh[i].inRange) ∧ p.finder.inRange ∧ p.tracker.inRange ∧
  p.deferredChecked

/-- A track record keeps its ranges, and only a COASTING track has misses (R119, R124). -/
def Track.fits (t : Track) : Prop :=
  1 ≤ t.id ∧ t.id ≤ 255 ∧ 1 ≤ t.hits ∧ t.hits ≤ 255 ∧ t.misses ≤ 15 ∧ (0 < t.misses ↔ t.state = .coasting) ∧
    t.lastPass < 65536

/-- The track table (R119, R125): at most eight tracks, no id twice, every record in its ranges. -/
def Sky.fits (y : Sky) : Prop :=
  y.tracks.length ≤ 8 ∧ (y.tracks.map Track.id).Nodup ∧ 1 ≤ y.nextId ∧ y.nextId ≤ 255 ∧ y.sp < 65536 ∧
    ∀ t ∈ y.tracks, t.fits

/-- The frame on the wire is a PROFILE frame. -/
def Link.sendsProfile (l : Link) : Bool :=
  match l.sending with
  | some f => decide (f.kind = profileKind)
  | none => false

/-- The replies not yet sent whole, oldest first, as the TAG and KIND of their commands: the one on the wire, then the REPLY
queue (R148, R154). -/
def Link.repliesOut (l : Link) : List (Byte × Byte) :=
  (match l.sending with
   | some f => if f.kind = replyKind then [(f.tag, f.payload.headD 0)] else []
   | none => []) ++ l.replies.map fun r => (r.tag, r.kind)

/-- The station link (R92, R132, R144, R145, R147, R152, R153): capacities of the queues; room for the reply of a held
command; a free unit leaves no command waiting; an IDLE scheduler has no source to send from; the profile out slot is
marked as being sent exactly while a PROFILE frame is on the wire. -/
def Part.linkFits (p : Part) : Prop :=
  p.link.commands.length ≤ 8 ∧ p.link.replies.length ≤ 4 ∧ p.link.reports.length ≤ 2 ∧
  (p.link.held.isSome = true → p.link.replies.length < 4) ∧ (p.link.unitFree = true → p.link.commands = []) ∧
  (p.link.sending = none →
    p.link.replies = [] ∧ p.status.pendingSet = 0 ∧ p.link.reports = [] ∧ p.engine.slot = .empty) ∧
  (p.engine.slot = .sending ↔ p.link.sendsProfile = true)

end Sys2Proof.Machine
end

