-- ==== Sys2Proof/Certificates/Slice0/Obligations.lean ====
section
/-! DEFINITION. The statements for the provers. Each docstring names the rules it formalises and, where a clause rests on a
choice of the model, the log entry. -/

open Sys2Proof Sys2Proof.Machine

/-! ### The machine and its shared operations -/

/-- A step takes the command at the front of the queue and runs it with the rest of the queue; an empty queue idles (the
idling is the model's choice, log 20). Every command answers a next state and leaves the queue of waiting commands alone; that
DEVICE_RESET leaves it too is the model's choice (log 27). -/
def Obligations.StepRunsFrontCommand : Prop :=
  (∀ (c : Instr) (rest : List Instr) (s : State), s.pending = c :: rest → step s = exec c { s with pending := rest }) ∧
  (∀ s : State, s.pending = [] → step s = .next s) ∧
  (∀ (i : Instr) (s : State), ∃ p : Part, exec i s = .next { s with toPart := p })

/-- DEVICE_RESET (R1, R4, R5, R15, R20, R29, R40, R58, R64, R85, R119, R161, R170 and the reset columns of the other tables): every
block takes its reset value, the inputs are as found, and the start-up loader run begins. The store keeps its content unless a
write or erase was held; then it counts as busy, each byte concerned old or new by a free choice (the model's reading, log 10).
That the queue of waiting commands stays is the model's choice (log 27). -/
def Obligations.DeviceResetValues : Prop :=
  ∀ (straps : BitVec 2) (headPresent interlockOpen : Bool) (s : State), ∃ t : State,
    exec (.deviceReset straps headPresent interlockOpen) s = .next t ∧ t.pending = s.pending ∧
    t.cadence = { slotPeriod := 250, fireWidth := 2, run := false } ∧ t.gen = .stopped ∧ t.ticks = 0 ∧
    t.trig = false ∧ t.fire = none ∧ t.bucket = 16777215 ∧ t.overEnergy = false ∧ t.stopped = false ∧
    t.pendingCharge = none ∧ t.interlockOpen = interlockOpen ∧
    t.head = (if headPresent then .unverified else .absent) ∧
    (∀ c : Fin 8, t.headTable[c] = { allowed := false, eRef := 1000, eMax := 1200, cap := 120000, drain := 300 }) ∧
    (∀ k : Fin 4, t.campTable[k] =
      { settings := { kind := .lit, sort := false, sortLo := 0, sortHi := 1, sendProfile := false }
        shots := 1, repeats := .once, autostart := false }) ∧
    (∀ k : Fin 4, t.runs[k] = { state := .idle, held := false, remaining := 0, sequence := 0, completed := 0 }) ∧
    t.arb = { mode := .fixed, order := [0, 1, 2, 3], triggerCount := 0 } ∧ t.shot = none ∧
    t.port = { lock := .unlocked 0, rx := .off, timer := none, lastEnd := none } ∧
    t.gates.nb = 0 ∧ t.gates.generation = 0 ∧ (∀ i : Fin 512, t.gates.table[i] = { s := 0, w := 1 }) ∧
    (∀ b : Fin 8, t.banks[b].state = .free ∧ t.banks[b].sequence = 0 ∧ t.banks[b].pre = 0 ∧ t.banks[b].esum = 0 ∧
      t.banks[b].fired = 0 ∧ t.banks[b].accepted = 0 ∧ t.banks[b].rejected = 0 ∧ t.banks[b].clippedShots = 0 ∧
      t.banks[b].firstTick = 0 ∧ t.banks[b].lastTick = 0 ∧
      t.banks[b].settings = { kind := .lit, sort := false, sortLo := 0, sortHi := 1, sendProfile := false } ∧
      ∀ i : Fin 512, t.banks[b].sums[i] = 0 ∧ t.banks[b].clipMap[i] = false) ∧
    t.engine.inHand = none ∧ t.engine.queue = [] ∧ t.engine.slot = .empty ∧ t.engine.skipped = 0 ∧
    t.engine.dark.state = .none ∧ t.engine.dark.source = none ∧ (∀ k : Fin 4, t.engine.lastERef[k] = 1000) ∧
    (∀ i : Fin 512, t.engine.dark.values[i] = 0 ∧ t.corr[i] = { m := 0, k := 0 } ∧
      t.thresh[i] = { tc := 2147483647, th := 0 }) ∧
    t.finder = { mIn := 3, mOut := 3, fogFloor := 60, ridge := 0, vvLimit := 150000000 } ∧
    t.tracker = { gate := 200, shift := 1, confirmHits := 3, dropMisses := 4, staleLimit := 20 } ∧
    t.sky = { tracks := [], nextId := 1, sp := 0 } ∧
    t.link = { rate := straps, rx := .startWait, lastError := none, commands := [], held := none, replies := []
               reports := [], sending := none } ∧
    t.status = { flags := 0, enables := 0x0017, global := true, pendingSet := 0 } ∧ t.partState = .loading ∧
    t.boot = .starting .busyWait ∧ t.loaded = { result := .none, reason := none, applied := 0, faultAddr := none } ∧
    ((∀ tag addr data, s.link.held ≠ some (.storeWrite tag addr data)) →
      (∀ tag addr, s.link.held ≠ some (.storeErase tag addr)) → t.store = s.store) ∧
    (s.store.ident ≠ 0 → s.store.ident ≠ 0xFFFFFF →
      (∀ tag addr data, s.link.held = some (.storeWrite tag addr data) →
        t.store = { s.store with busy := true, cells := cutProgramCells s.store.cells s.free addr data }) ∧
      (∀ tag addr, s.link.held = some (.storeErase tag addr) →
        t.store = { s.store with busy := true, cells := cutEraseCells s.store.cells s.free addr }))

/-- State.reset, the model's part right after reset with the inputs of logs 7 and 8, meets every invariant stated below. -/
def Obligations.ResetMeetsInvariants : Prop :=
  State.reset.toPart.banksAgree ∧ State.reset.toPart.shotAgrees ∧ State.reset.toPart.countsAgree ∧
  State.reset.arb.ordered ∧ State.reset.toPart.tablesInRange ∧ State.reset.sky.fits ∧ State.reset.toPart.linkFits ∧
  Memory.wf State.reset.store.cells = true ∧ State.reset.bucket ≤ 16777215 ∧ State.reset.pending = []

/-- Placing a reply (R148, R153, R154) and raising a flag (R155, R156). While a frame is being sent a reply joins the tail of the
REPLY queue; an IDLE scheduler with an empty queue begins its frame at once. A set flag stays; a clear one becomes set; when it
and the global enable are on it joins the pending set, and an IDLE scheduler with nothing of higher precedence begins the
NOTICE, which empties the pending set. -/
def Obligations.RepliesAndFlags : Prop :=
  (∀ (p : Part) (c : Command) (code : ResultCode) (data : List Byte),
    (∀ f, p.link.sending = some f → p.answer c code data =
      { p with link := { p.link with
          replies := p.link.replies ++ [{ tag := c.tag, kind := c.kind, code := code, data := data }] } }) ∧
    (p.link.sending = none → p.link.replies = [] → p.answer c code data =
      { p with link := { p.link with
          sending := some { kind := 0x81, tag := c.tag, payload := c.kind :: code.code :: data } } })) ∧
  (∀ (p : Part) (f : Flag),
    (p.status.flags.getLsbD f.bit = true → p.raise f = p) ∧
    (p.status.flags.getLsbD f.bit = false → (p.status.global && p.status.enables.getLsbD f.bit) = false →
      p.raise f = { p with status := { p.status with flags := p.status.flags ||| f.mask } }) ∧
    (p.status.flags.getLsbD f.bit = false → (p.status.global && p.status.enables.getLsbD f.bit) = true →
      (∀ g, p.link.sending = some g → p.raise f =
        { p with status := { p.status with
            flags := p.status.flags ||| f.mask, pendingSet := p.status.pendingSet ||| f.mask } }) ∧
      (p.link.sending = none → p.link.replies = [] → p.raise f =
        { p with
          status := { p.status with flags := p.status.flags ||| f.mask, pendingSet := 0 }
          link := { p.link with
            sending := some
              (OutFrame.mk 0x82 0
                (beMask (p.status.pendingSet ||| f.mask) ++ beMask (p.status.flags ||| f.mask) ++ [p.partState.code])) } })))

/-- Rounding (R79): for a positive divisor the magnitude is the integer part of (2|a| + b) / (2b) and the sign is that of the
numerator; so the result is a nearest integer, ties go away from zero, and the convention is symmetric. -/
def Obligations.RoundingIsNearest : Prop :=
  ∀ (a : Int) (b : Nat), 1 ≤ b →
    (roundDiv a b).natAbs = (2 * a.natAbs + b) / (2 * b) ∧
    (0 ≤ a → 0 ≤ roundDiv a b) ∧ (a ≤ 0 → roundDiv a b ≤ 0) ∧ roundDiv (-a) b = -roundDiv a b ∧
    2 * (a - b * roundDiv a b).natAbs ≤ b ∧
    (2 * (a - b * roundDiv a b).natAbs = b → a.natAbs < (b * roundDiv a b).natAbs)

/-- The four stages (R80 to R83): stage 1 stays within ±4,194,048; stage 2 subtracts a VALID dark reference with its clamp and
nothing otherwise; stage 3 has unit gain for ESUM 0, gain 4 exactly at the cap, and stays within ±16,777,216; stage 4 is the
rounded product where that fits, saturates to ±2,147,483,647, and is 0 for M = 0. -/
def Obligations.ProfileStages : Prop :=
  (∀ a w pre n : Nat, 1 ≤ w → 1 ≤ n → a ≤ 16383 * w * n → pre ≤ 16383 * 64 * n →
    stage1 a w pre n = roundDiv (4 * (64 * (a : Int) - (w : Int) * (pre : Int))) (w * n) ∧
    -4194048 ≤ stage1 a w pre n ∧ stage1 a w pre n ≤ 4194048) ∧
  (∀ (d : DarkRef) (i : Fin 512) (u : Int),
    (d.state ≠ .valid → stage2 d i u = u) ∧
    (d.state = .valid → u - d.values[i] < -4194304 → stage2 d i u = -4194304) ∧
    (d.state = .valid → 4194303 < u - d.values[i] → stage2 d i u = 4194303) ∧
    (d.state = .valid → -4194304 ≤ u - d.values[i] → u - d.values[i] ≤ 4194303 → stage2 d i u = u - d.values[i])) ∧
  (∀ (e n esum : Nat) (u : Int),
    stage3 e n 0 u = u ∧
    (1 ≤ esum → e * n ≤ 4 * esum → stage3 e n esum u = roundDiv (u * ((e * n : Nat) : Int)) esum) ∧
    (1 ≤ esum → 4 * esum ≤ e * n → stage3 e n esum u = 4 * u) ∧
    (1 ≤ esum → -4194304 ≤ u → u ≤ 4194304 → -16777216 ≤ stage3 e n esum u ∧ stage3 e n esum u ≤ 16777216)) ∧
  (∀ (c : CorrEntry) (v : Int),
    -2147483647 ≤ stage4 c v ∧ stage4 c v ≤ 2147483647 ∧ (c.m = 0 → stage4 c v = 0) ∧
    (-2147483647 ≤ roundDiv (v * c.m * 2 ^ c.k) 1048576 → roundDiv (v * c.m * 2 ^ c.k) 1048576 ≤ 2147483647 →
      stage4 c v = roundDiv (v * c.m * 2 ^ c.k) 1048576) ∧
    (2147483647 < roundDiv (v * c.m * 2 ^ c.k) 1048576 → stage4 c v = 2147483647) ∧
    (roundDiv (v * c.m * 2 ^ c.k) 1048576 < -2147483647 → stage4 c v = -2147483647))

/-- Validity of the gate table (R61) and the heights of a bin (R62): in a valid table every active bin ends within 20,160 m
and the top height of a bin is at most the base height of the next. -/
def Obligations.GateValidityAndHeights : Prop :=
  ∀ g : Gates, g.nb ≤ 512 →
    (g.valid = true ↔
      1 ≤ g.nb ∧ (∀ i, i < g.nb → (g.entry i).s + (g.entry i).w ≤ 4032) ∧
      (∀ i, i + 1 < g.nb → (g.entry i).s + (g.entry i).w ≤ (g.entry (i + 1)).s)) ∧
    (∀ i : Fin 512, g.base i = 5 * g.table[i].s ∧ g.top i = 5 * (g.table[i].s + g.table[i].w) ∧
      g.span i = 5 * g.table[i].w) ∧
    (g.valid = true → ∀ i, i < g.nb → g.top i ≤ 20160 ∧ (i + 1 < g.nb → g.top i ≤ g.base (i + 1)))

/-! ### The laser -/

/-- R8: the lit permit is true exactly when the cause set is empty, the level with the selected row's E_max is at most its CAP,
the port is LOCKED and the part READY; and whatever the part takes, a FIRE pulse or a lit shot begins only at the end of a
running slot period at which all that R8 lists holds, on the level after that tick's drain. -/
def Obligations.FirePulseOnlyWhenSafe : Prop :=
  (∀ p : Part, p.litPermit = true ↔
    p.interlockOpen = false ∧ p.overEnergy = false ∧ p.stopped = false ∧
    (∃ c : Fin 8, p.head = .verified c ∧ p.headTable[c].allowed = true ∧
      p.bucket + p.headTable[c].eMax ≤ p.headTable[c].cap) ∧
    (∃ n, p.port.lock = .locked n) ∧ p.boot = .ready) ∧
  (∀ (i : Instr) (s t : State), exec i s = .next t →
    (t.fire ≠ none ∧ t.fire ≠ s.fire) ∨ (s.shot = none ∧ t.litShot = true) →
    i = .periodEnd ∧ (∃ n, s.gen = .running n) ∧ s.mayFire)

/-- The bucket (R5, R6): whatever the part takes, the level stays within its range, and it falls only at the end of a running
slot period, by the DRAIN of the row of a VERIFIED head, stopping at 0. -/
def Obligations.BucketFallsOnlyByDrain : Prop :=
  ∀ (i : Instr) (s t : State), s.bucket ≤ 16777215 → exec i s = .next t →
    t.bucket ≤ 16777215 ∧
    (t.bucket < s.bucket → i = .periodEnd ∧ (∃ n, s.gen = .running n) ∧
      ∃ c : Fin 8, s.head = .verified c ∧ t.bucket = s.bucket - s.headTable[c].drain)

/-- The Emission Monitor at a shot end (R9, R10): without a pending charge nothing changes; with one, E when it is trusted, else
the charge, is added up to the maximum and the charge becomes absent; OVERENERGY latches exactly when E was above the charge,
its flag and LASER_BLOCKED rise when the latch was clear and the cause set empty, and otherwise no flag changes. -/
def Obligations.ShotEndCharge : Prop :=
  ∀ (p : Part) (e : Option Nat),
    (p.pendingCharge = none → p.chargeShot e = p) ∧
    (∀ charge, p.pendingCharge = some charge →
      (p.chargeShot e).bucket = min (p.bucket + e.getD charge) 16777215 ∧
      (p.chargeShot e).pendingCharge = none ∧
      ((p.chargeShot e).overEnergy = true ↔ p.overEnergy = true ∨ charge < e.getD charge) ∧
      (p.chargeShot e).stopped = p.stopped ∧ (p.chargeShot e).runs = p.runs ∧ (p.chargeShot e).banks = p.banks ∧
      (p.chargeShot e).shot = p.shot ∧ (p.chargeShot e).port = p.port ∧ (p.chargeShot e).arb = p.arb ∧
      (p.overEnergy = true ∨ e.getD charge ≤ charge → (p.chargeShot e).status = p.status) ∧
      (p.overEnergy = false → charge < e.getD charge →
        (p.chargeShot e).status.flags =
          p.status.flags ||| Flag.overEnergy.mask ||| (if p.permitted then Flag.laserBlocked.mask else 0)))

/-- PERIOD_END (R1, R3, R6, R28 to R31, R55): ENDING stops the generator without a tick (in STOPPED nothing happens, log 2); in
RUNNING the tick count advances, the bucket drains and the next period begins; a shot in flight raises SLOT_SKIP; with no
eligible campaign nothing more happens; otherwise the first eligible campaign in the priority order is granted. Eligible means
ACTIVE, not held, READY, LOCKED and, for LIT, permitted after the drain. -/
def Obligations.SlotTick : Prop :=
  ∀ s : State,
    (s.gen = .stopped → exec .periodEnd s = .next s) ∧
    (∀ n, s.gen = .ending n → exec .periodEnd s = .next { s with gen := .stopped }) ∧
    (∀ n (q : Part), s.gen = .running n →
      q = { s.toPart with
        gen := .running s.cadence.slotPeriod
        ticks := (s.ticks + 1) % 4294967296
        bucket := s.bucket - (match s.head with | .verified c => s.headTable[c].drain | _ => 0) } →
      (∀ k : Fin 4, q.eligible k = true ↔
        (∃ odd, s.runs[k].state = .active odd) ∧ s.runs[k].held = false ∧ s.boot = .ready ∧
        s.port.isLocked = true ∧ (s.campTable[k].settings.kind = .dark ∨ q.litPermit = true)) ∧
      (s.shot ≠ none → exec .periodEnd s = .next { s with toPart := q.raise .slotSkip }) ∧
      (s.shot = none → (∀ k, q.eligible k = false) → exec .periodEnd s = .next { s with toPart := q }) ∧
      (∀ (k : Fin 4) (odd : Bool), s.shot = none →
        (if s.arb.mode = .rotating then s.arb.order else [0, 1, 2, 3]).find? q.eligible = some k →
        s.runs[k].state = .active odd →
        exec .periodEnd s = .next { s with toPart := { q with
          trig := true
          fire := if s.campTable[k].settings.kind = .lit then some s.cadence.fireWidth else s.fire
          pendingCharge := if s.campTable[k].settings.kind = .lit then q.selectedRow.map HeadRow.eMax
            else s.pendingCharge
          shot := some { campaign := k, kind := s.campTable[k].settings.kind, expectedTag := s.arb.triggerCount + 1
                         target := bankOf k odd, abandoned := false }
          arb := { s.arb with
            triggerCount := s.arb.triggerCount + 1
            order := if s.arb.mode = .rotating then s.arb.order.filter (· ≠ k) ++ [k] else s.arb.order }
          port := { s.port with timer := some 1000 }
          banks := s.banks.set (bankOf k odd)
            { s.banks[bankOf k odd] with fired := min (s.banks[bankOf k odd].fired + 1) 65535 } } }))

/-- TRIG_PULSE_END and FIRE_PULSE_END (R4): the output returns low and nothing else changes. INTERLOCK_CHANGE (R5, R7): the input is
taken; LASER_BLOCKED rises exactly when the laser was permitted and the interlock opens. -/
def Obligations.PinEvents : Prop :=
  ∀ s : State,
    exec .trigPulseEnd s = .next { s with trig := false } ∧ exec .firePulseEnd s = .next { s with fire := none } ∧
    exec (.interlockChange false) s = .next { s with interlockOpen := false } ∧
    (s.permitted = true → exec (.interlockChange true) s =
      .next { s with toPart := Part.raise { s.toPart with interlockOpen := true } .laserBlocked }) ∧
    (s.permitted = false → exec (.interlockChange true) s = .next { s with interlockOpen := true })

/-- The bands of R16, and PRESENCE_CHANGE and CONVERSION_COMPLETE outside the start-up head step (R14, R16): the head state
follows the comparator or the measured resistance; leaving VERIFIED blocks a permitted laser; HEAD_CHANGE rises at every
presence change and HEAD_DONE at every completion. In the head step the same event also brings READY and autostart (R170). The
model's own readings: LASER_BLOCKED rises before HEAD_CHANGE, and the notice of an event that ends the head step is built before
READY (log 5, DEDUCED, unsafe); a presence change is taken whatever the verdict before it (log 22); the resistance is a whole
number of ohms (log 13); with no conversion in flight a completion changes nothing (log 2). -/
def Obligations.HeadEvents : Prop :=
  (∀ r : Nat, headOfOhms r =
    if r < 500 then .unreadable
    else if 900 ≤ r ∧ r ≤ 1100 then .verified 0 else if 1980 ≤ r ∧ r ≤ 2420 then .verified 1
    else if 4230 ≤ r ∧ r ≤ 5170 then .verified 2 else if 9000 ≤ r ∧ r ≤ 11000 then .verified 3
    else if 19800 ≤ r ∧ r ≤ 24200 then .verified 4 else if 42300 ≤ r ∧ r ≤ 51700 then .verified 5
    else if 90000 ≤ r ∧ r ≤ 110000 then .verified 6 else if 198000 ≤ r ∧ r ≤ 242000 then .verified 7
    else if 470000 < r then .absent else .unreadable) ∧
  (∀ (appear : Bool) (s : State) (q : Part),
    q = { s.toPart with head := if appear then .unverified else .absent } →
    (s.boot ≠ .headStep → s.permitted = true →
      exec (.presenceChange appear) s = .next { s with toPart := (q.raise .laserBlocked).raise .headChange }) ∧
    (s.boot ≠ .headStep → s.permitted = false →
      exec (.presenceChange appear) s = .next { s with toPart := q.raise .headChange }) ∧
    (s.boot = .headStep → s.permitted = false →
      exec (.presenceChange appear) s =
        .next { s with toPart := Part.autostart { q.raise .headChange with boot := .ready } }) ∧
    (s.boot = .headStep → s.permitted = true →
      exec (.presenceChange appear) s =
        .next { s with toPart := Part.autostart { (q.raise .laserBlocked).raise .headChange with boot := .ready } })) ∧
  (∀ (ohms : Nat) (s : State) (q : Part), q = { s.toPart with head := headOfOhms ohms } →
    (s.head ≠ .measuring → exec (.conversionComplete ohms) s = .next s) ∧
    (s.head = .measuring → s.boot ≠ .headStep →
      exec (.conversionComplete ohms) s = .next { s with toPart := q.raise .headDone }) ∧
    (s.head = .measuring → s.boot = .headStep →
      exec (.conversionComplete ohms) s =
        .next { s with toPart := Part.autostart { q.raise .headDone with boot := .ready } }))

/-- LASER_STOP, LASER_RELEASE and MEASURE_HEAD in READY (R11, R12, R17): STOPPED latches and a permitted laser becomes blocked;
both latches clear; a conversion begins unless no head is present or one is in flight. The reply of the first two carries the
cause set that results. -/
def Obligations.LaserCommands : Prop :=
  ∀ (tag : Byte) (s : State), s.takesAtOnce = true → s.boot = .ready →
    (∀ q : Part, q = { s.toPart with stopped := true } →
      exec (.laserStop tag []) s =
        answered s (if s.permitted then q.raise .laserBlocked else q) { kind := 0x0D, tag := tag, payload := [] } .ok
          [maskOf 8 [s.overEnergy, true, s.interlockOpen, s.headCause]]) ∧
    exec (.laserRelease tag []) s =
      answered s { s.toPart with stopped := false, overEnergy := false } { kind := 0x0E, tag := tag, payload := [] } .ok
        [maskOf 8 [false, false, s.interlockOpen, s.headCause]] ∧
    (s.head = .absent → exec (.measureHead tag []) s =
      answered s s.toPart { kind := 0x0F, tag := tag, payload := [] } .headAbsent []) ∧
    (s.head = .measuring → exec (.measureHead tag []) s =
      answered s s.toPart { kind := 0x0F, tag := tag, payload := [] } .busy []) ∧
    (∀ q : Part, q = { s.toPart with head := .measuring } → s.head ≠ .absent → s.head ≠ .measuring →
      exec (.measureHead tag []) s =
        answered s (if s.permitted then q.raise .laserBlocked else q) { kind := 0x0F, tag := tag, payload := [] } .ok [])

/-! ### Commands answered at once -/

/-- PING (R149): up to 32 bytes come back behind the part state, more are refused, and the reply is all that changes. -/
def Obligations.PingAnswers : Prop :=
  ∀ (tag : Byte) (data : List Byte) (s : State), s.takesAtOnce = true →
    (data.length ≤ 32 → exec (.ping tag data) s =
      answered s s.toPart { kind := 0x01, tag := tag, payload := data } .ok
        ((if s.boot = .ready then 1 else 0) :: data)) ∧
    (32 < data.length → exec (.ping tag data) s =
      answered s s.toPart { kind := 0x01, tag := tag, payload := data } .badParam [])

/-- READ_STATUS (R159, R172): OK in either part state, nothing else changes, and the reply data is 57 bytes with the fields at
their offsets. The counts of commands and replies leave out the command being read and a frame begun (logs 18 and 19). -/
def Obligations.ReadStatusLayout : Prop :=
  ∀ (tag : Byte) (s : State), s.takesAtOnce = true → ∃ d : List Byte,
    exec (.readStatus tag []) s = answered s s.toPart { kind := 0x02, tag := tag, payload := [] } .ok d ∧
    d.length = 57 ∧ d[0]? = some (if s.boot = .ready then 1 else 0) ∧ d[1]? = some s.loaded.result.code ∧
    (∀ r, s.loaded.reason = some r → d[2]? = some 1 ∧ d[3]? = some (byte r.code)) ∧
    (s.loaded.reason = none → d[2]? = some 0 ∧ d[3]? = some 0) ∧ d[4]? = some (byte s.loaded.applied) ∧
    (∀ a, s.loaded.faultAddr = some a → d[5]? = some 1 ∧ field d 6 2 = a % 65536) ∧
    (s.loaded.faultAddr = none → d[5]? = some 0 ∧ field d 6 2 = 0) ∧
    field d 8 2 = s.status.flags.toNat ∧ field d 10 2 = s.status.enables.toNat ∧
    d[12]? = some (if s.status.global then 1 else 0) ∧ field d 13 2 = s.status.pendingSet.toNat ∧
    d[15]? = some (s.link.rate.setWidth 8) ∧
    (∀ r, s.link.lastError = some r → d[16]? = some 1 ∧ d[17]? = some (byte r.code)) ∧
    (s.link.lastError = none → d[16]? = some 0 ∧ d[17]? = some 0) ∧ d[18]? = some 0 ∧
    d[19]? = some (byte s.link.replies.length) ∧ d[20]? = some s.port.lock.code ∧ d[21]? = some s.port.rx.code ∧
    (s.port.lastEnd = none → (d.drop 22).take 11 = List.replicate 11 0) ∧
    (∀ e, s.port.lastEnd = some e →
      (d.drop 22).take 6 = [1, e.outcome.code, e.reason.code, byte e.campaign, e.kind.code, e.expectedTag] ∧
      (∀ r, e.receivedTag = some r → d[28]? = some 1 ∧ d[29]? = some r) ∧
      (e.receivedTag = none → d[28]? = some 0 ∧ d[29]? = some 0) ∧
      (∀ x, e.energy = some x → d[30]? = some 1 ∧ field d 31 2 = x % 65536) ∧
      (e.energy = none → d[30]? = some 0 ∧ field d 31 2 = 0)) ∧
    d[33]? = some (if s.gates.valid then 1 else 0) ∧ field d 34 2 = s.gates.nb % 65536 ∧
    d[36]? = some (byte s.gates.generation) ∧
    (∀ h, s.engine.inHand = some h → (d.drop 37).take 3 = [1, 1, byte h.bank]) ∧
    (s.engine.inHand = none → (d.drop 37).take 3 = [0, 0, 0]) ∧ d[40]? = some (byte s.engine.queue.length) ∧
    (∀ (j : Nat) (b : Fin 8), j < 8 → s.engine.queue[j]? = some b → d[41 + j]? = some (byte b)) ∧
    (∀ j : Nat, j < 8 → s.engine.queue.length ≤ j → d[41 + j]? = some 0) ∧ d[49]? = some s.engine.dark.state.code ∧
    (∀ k q, s.engine.dark.source = some (k, q) → d[50]? = some 1 ∧ d[51]? = some (byte k) ∧ field d 52 2 = q % 65536) ∧
    (s.engine.dark.source = none → (d.drop 50).take 4 = [0, 0, 0, 0]) ∧
    d[54]? = some (if s.engine.slot = .empty then 0 else 1) ∧ d[55]? = some (byte s.engine.skipped) ∧
    d[56]? = some (byte s.link.reports.length)

/-- READ_LASER (R13, R172) and READ_CAMPAIGN (R37, R172): OK in either part state with 16 and 39 bytes, fields at their offsets, and
nothing else changes; a campaign number above 3 is refused. -/
def Obligations.LaserAndCampaignLayouts : Prop :=
  (∀ (tag : Byte) (s : State), s.takesAtOnce = true → ∃ d : List Byte,
    exec (.readLaser tag []) s = answered s s.toPart { kind := 0x10, tag := tag, payload := [] } .ok d ∧
    d.length = 16 ∧ field d 0 3 = s.bucket % 16777216 ∧
    (∃ m : Byte, d[3]? = some m ∧ m.getLsbD 0 = s.overEnergy ∧ m.getLsbD 1 = s.stopped ∧
      m.getLsbD 2 = s.interlockOpen ∧
      (m.getLsbD 3 = false ↔ ∃ c : Fin 8, s.head = .verified c ∧ s.headTable[c].allowed = true) ∧ m.toNat < 16) ∧
    d[4]? = some (if s.interlockOpen then 0 else 1) ∧ d[5]? = some s.head.code ∧
    (∀ c, s.head = .verified c → d[6]? = some 1 ∧ d[7]? = some (byte c)) ∧
    ((∀ c, s.head ≠ .verified c) → d[6]? = some 0 ∧ d[7]? = some 0) ∧
    (∀ x, s.pendingCharge = some x → d[8]? = some 1 ∧ field d 9 2 = x % 65536) ∧
    (s.pendingCharge = none → d[8]? = some 0 ∧ field d 9 2 = 0) ∧ d[11]? = some s.gen.code ∧
    field d 12 4 = s.ticks % 4294967296) ∧
  (∀ (tag b : Byte) (s : State), s.takesAtOnce = true →
    (4 ≤ b.toNat → exec (.readCampaign tag [b]) s =
      answered s s.toPart { kind := 0x0C, tag := tag, payload := [b] } .badParam []) ∧
    (∀ k : Fin 4, b.toNat = k → ∃ d : List Byte,
      exec (.readCampaign tag [b]) s = answered s s.toPart { kind := 0x0C, tag := tag, payload := [b] } .ok d ∧
      d[0]? = some s.runs[k].state.code ∧ d[1]? = some (if s.runs[k].held then 1 else 0) ∧
      field d 2 2 = s.runs[k].remaining % 65536 ∧
      (∀ odd, s.runs[k].state = .active odd → d[4]? = some 1 ∧ d[5]? = some (byte (bankOf k odd))) ∧
      ((∀ odd, s.runs[k].state ≠ .active odd) → d[4]? = some 0 ∧ d[5]? = some 0) ∧
      field d 6 2 = s.runs[k].sequence % 65536 ∧ field d 8 2 = s.runs[k].completed % 65536 ∧
      (∀ (odd : Bool) (o : Nat), o = (if odd then 21 else 10) →
        d[o]? = some (byte (bankOf k odd)) ∧ d[o + 1]? = some s.banks[bankOf k odd].state.code ∧
        (s.banks[bankOf k odd].state = .closed ∨ s.banks[bankOf k odd].state = .processing →
          d[o + 2]? = some 1 ∧ field d (o + 3) 2 = s.banks[bankOf k odd].sequence % 65536) ∧
        (s.banks[bankOf k odd].state = .free ∨ s.banks[bankOf k odd].state = .filling →
          d[o + 2]? = some 0 ∧ field d (o + 3) 2 = 0) ∧
        field d (o + 5) 2 = s.banks[bankOf k odd].fired % 65536 ∧
        field d (o + 7) 2 = s.banks[bankOf k odd].accepted % 65536 ∧
        field d (o + 9) 2 = s.banks[bankOf k odd].rejected % 65536) ∧
      (∀ x, s.shot = some x → x.campaign = k → d[32]? = some (if x.abandoned then 2 else 1)) ∧
      ((∀ x, s.shot = some x → x.campaign ≠ k) → d[32]? = some 0) ∧ d[33]? = some s.arb.mode.code ∧
      (s.arb.order.length = 4 → d.length = 39 ∧ (d.drop 34).take 4 = s.arb.order.map (fun j : Fin 4 => byte j.val) ∧
        d[38]? = some s.arb.triggerCount)))

/-- READ_TRACKS (R135, R171, R172) and READ_TABLE (R151): OK in either part state and nothing else changes. The tracks come in
ascending id, 18 bytes each, every field at its offset; the entries of a run come as stored; a run R150 does not allow, or of more
than 2,091 bytes, is refused. -/
def Obligations.ReadTracksAndTable : Prop :=
  (∀ (tag : Byte) (s : State), s.takesAtOnce = true → ∃ ts : List Track,
    ts.Perm s.sky.tracks ∧ ts.Pairwise (fun a b => a.id ≤ b.id) ∧
    exec (.readTracks tag []) s = answered s s.toPart { kind := 0x12, tag := tag, payload := [] } .ok
      (be 2 s.sky.sp ++ [byte s.sky.nextId, byte s.sky.tracks.length] ++ (ts.map Track.bytes).flatten)) ∧
  (∀ (t : Track) (d : List Byte), d = t.bytes → d.length = 18 ∧ d[0]? = some (byte t.id) ∧
    d[1]? = some (if t.state = .tentative then 0 else if t.state = .confirmed then 1 else 2) ∧ d[2]? = some (byte t.owner) ∧
    field d 3 2 = t.base % 65536 ∧ (∀ h, t.top = some h → d[5]? = some 1 ∧ field d 6 2 = h % 65536) ∧
    (t.top = none → (d.drop 5).take 3 = [0, 0, 0]) ∧ d[8]? = some (if t.cls = .fog then 1 else 0) ∧
    (∃ m : Byte, d[9]? = some m ∧ m.getLsbD 0 = t.flags.topSeen ∧ m.getLsbD 1 = t.flags.clipped ∧
      m.getLsbD 2 = t.flags.belowRidge ∧ m.toNat < 8) ∧
    (field d 10 4 : Int) = t.peak % 4294967296 ∧ d[14]? = some (byte t.hits) ∧ d[15]? = some (byte t.misses) ∧
    field d 16 2 = t.lastPass % 65536) ∧
  (∀ (tag id : Byte) (start count : Nat) (s : State), s.takesAtOnce = true → start < 65536 → count < 65536 →
    ∀ c : Command, c = { kind := 0x07, tag := tag, payload := id :: (be 2 start ++ be 2 count) } →
    (id.toNat = 0 ∨ 10 < id.toNat ∨ count = 0 → exec (.readTable tag c.payload) s = answered s s.toPart c .badTable []) ∧
    (∀ t, tableOf id.toNat = some t →
      (tableEntries t < start + count → exec (.readTable tag c.payload) s = answered s s.toPart c .badTable []) ∧
      (count ≠ 0 → start + count ≤ tableEntries t → 2091 < count * tableSize t →
        exec (.readTable tag c.payload) s = answered s s.toPart c .badParam []) ∧
      (count ≠ 0 → start + count ≤ tableEntries t → count * tableSize t ≤ 2091 →
        exec (.readTable tag c.payload) s = answered s s.toPart c .ok
          (c.payload ++ ((List.range count).map fun j => s.entryBytes t (start + j)).flatten))))

/-- CLEAR_STATUS and SET_NOTICES (R157, R158): the named flags clear and the pending set stays; the enables and the global
enable are written, or refused whole when the global enable is above 1. -/
def Obligations.ClearStatusSetNotices : Prop :=
  ∀ (tag a b g : Byte) (s : State), s.takesAtOnce = true →
    exec (.clearStatus tag [a, b]) s =
      answered s { s.toPart with status := { s.status with flags := s.status.flags &&& ~~~(a ++ b : BitVec 16) } }
        { kind := 0x03, tag := tag, payload := [a, b] } .ok (be 2 (s.status.flags &&& ~~~(a ++ b : BitVec 16)).toNat) ∧
    (g.toNat ≤ 1 → exec (.setNotices tag [a, b, g]) s =
      answered s { s.toPart with status := { s.status with enables := (a ++ b : BitVec 16), global := decide (g = 1) } }
        { kind := 0x04, tag := tag, payload := [a, b, g] } .ok []) ∧
    (1 < g.toNat → exec (.setNotices tag [a, b, g]) s =
      answered s s.toPart { kind := 0x04, tag := tag, payload := [a, b, g] } .badParam [])

/-- WARM_RESTART in READY (R160, R39, R40, R72, R92, R95, R137): what it keeps and what it discards, block by block; a shot in
flight ends as abandoned, its charge is added to the bucket, and its record is bound to an ended shot. No flag rises. -/
def Obligations.WarmRestartEffect : Prop :=
  ∀ (tag : Byte) (s : State) (q : Part), s.takesAtOnce = true → s.boot = .ready →
    q = { s.toPart with
      runs := Vector.ofFn fun k => { s.runs[k] with state := .idle, held := false, remaining := 0 }
      banks := Vector.replicate 8 Bank.cleared
      engine := { s.engine with inHand := none, queue := [], skipped := 0
                                slot := if s.engine.slot = .sending then .sending else .empty }
      sky := { tracks := [], nextId := 1, sp := 0 }
      link := { s.link with reports := [] }
      status := { s.status with flags := 0, pendingSet := 0 } } →
    (s.shot = none → exec (.warmRestart tag []) s =
      answered s { q with port := { s.port with timer := none } } { kind := 0x05, tag := tag, payload := [] } .ok []) ∧
    (∀ x, s.shot = some x → exec (.warmRestart tag []) s =
      answered s
        { q with
          shot := none
          bucket := match s.pendingCharge with | some e => min (s.bucket + e) 16777215 | none => s.bucket
          pendingCharge := none
          port := { s.port with
            timer := none
            rx := match s.port.rx with
              | .record r => .record { r with bound := if r.bound = .inFlight then .ended else r.bound }
              | rx => rx
            lastEnd := some { outcome := .abandoned, reason := .restart, campaign := x.campaign, kind := x.kind
                              expectedTag := x.expectedTag, receivedTag := none, energy := none } } }
        { kind := 0x05, tag := tag, payload := [] } .ok [])

/-! ### Tables -/

/-- The field checks of a load (R2, R18, R21, R29, R58, R59, R84, R97, R99, R120), byte by byte for an entry of the table's size:
an entry passes exactly when its fields lie in the ranges of the owning rule. -/
def Obligations.FieldChecksAreRanges : Prop :=
  (∀ a b c : Byte, entryOk .gate [a, b, c] = true ↔ a.toNat * 256 + b.toNat ≤ 4031 ∧ 1 ≤ c.toNat ∧ c.toNat ≤ 64) ∧
  (∀ a b : Byte, entryOk .bins [a, b] = true ↔ a.toNat * 256 + b.toNat ≤ 512) ∧
  (∀ a b c : Byte, entryOk .corr [a, b, c] = true ↔ c.toNat ≤ 15) ∧
  (∀ tc th : Nat, tc < 4294967296 → th < 4294967296 →
    (entryOk .thresh (be 4 tc ++ be 4 th) = true ↔ 1 ≤ tc ∧ tc ≤ 2147483647 ∧ th ≤ 2147483647)) ∧
  (∀ (a : Byte) (eRef eMax cap drain : Nat), eRef < 65536 → eMax < 65536 → cap < 16777216 → drain < 65536 →
    (entryOk .head (a :: (be 2 eRef ++ be 2 eMax ++ be 3 cap ++ be 2 drain)) = true ↔
      a.toNat ≤ 1 ∧ 1 ≤ eRef ∧ 1 ≤ eMax ∧ eMax ≤ cap)) ∧
  (∀ a b c d : Byte, entryOk .cadence [a, b, c, d] = true ↔ d.toNat ≤ 1) ∧
  (∀ a : Byte, entryOk .arb [a] = true ↔ a.toNat ≤ 1) ∧
  (∀ (kind rep sort send auto : Byte) (shots lo hi : Nat), shots < 65536 → lo < 65536 → hi < 65536 →
    (entryOk .camp (kind :: (be 2 shots ++ [rep, sort] ++ be 2 lo ++ be 2 hi ++ [send, auto])) = true ↔
      kind.toNat ≤ 1 ∧ 1 ≤ shots ∧ rep.toNat ≤ 1 ∧ sort.toNat ≤ 1 ∧ lo ≤ 511 ∧ hi ≤ 511 ∧ send.toNat ≤ 1 ∧
      auto.toNat ≤ 1 ∧ ¬(kind = 1 ∧ sort = 1))) ∧
  (∀ (mIn mOut : Byte) (fog ridge vv : Nat), fog < 65536 → ridge < 65536 → vv < 1099511627776 →
    (entryOk .finder ([mIn, mOut] ++ be 2 fog ++ be 2 ridge ++ be 5 vv) = true ↔ fog ≤ 1000 ∧ ridge ≤ 20160 ∧ 1 ≤ vv)) ∧
  (∀ a b sh hits misses st : Byte, entryOk .tracker [a, b, sh, hits, misses, st] = true ↔
    sh.toNat ≤ 4 ∧ 1 ≤ hits.toNat ∧ hits.toNat ≤ 15 ∧ 1 ≤ misses.toNat ∧ misses.toNat ≤ 15 ∧ 1 ≤ st.toNat)

/-- The ten tables, with their ids, entry counts and entry sizes, and LOAD_TABLE in READY (R150, R22, R60, R88): the refusals in
their order, then the entries written with the reply, or the load held while the engine is PROCESSING. -/
def Obligations.LoadTableStores : Prop :=
  (∀ ts : List TableId, ts = [.gate, .bins, .corr, .thresh, .head, .cadence, .arb, .camp, .finder, .tracker] →
    ts.map tableEntries = [512, 1, 512, 512, 8, 1, 1, 4, 1, 1] ∧ ts.map tableSize = [3, 2, 3, 8, 10, 4, 1, 11, 11, 6] ∧
    ∀ id, tableOf id = if id = 0 then none else ts[id - 1]?) ∧
  ∀ (tag : Byte) (s : State), s.takesAtOnce = true → s.boot = .ready →
    (∀ pl : List Byte, pl.length < 5 → exec (.loadTable tag pl) s =
      answered s s.toPart { kind := 0x06, tag := tag, payload := pl } .badParam []) ∧
    (∀ (id : Byte) (start count : Nat) (body : List Byte) (c : Command), start < 65536 → count < 65536 →
      c = { kind := 0x06, tag := tag, payload := id :: (be 2 start ++ be 2 count ++ body) } →
      (id.toNat = 0 ∨ 10 < id.toNat ∨ count = 0 → exec (.loadTable tag c.payload) s = answered s s.toPart c .badTable []) ∧
      (∀ t, tableOf id.toNat = some t →
        (tableEntries t < start + count → exec (.loadTable tag c.payload) s = answered s s.toPart c .badTable []) ∧
        (count ≠ 0 → start + count ≤ tableEntries t → body.length ≠ count * tableSize t →
          exec (.loadTable tag c.payload) s = answered s s.toPart c .badParam []) ∧
        (∀ (busy : Bool) (es : List (List Byte)), count ≠ 0 → start + count ≤ tableEntries t →
          (∀ e ∈ es, e.length = tableSize t) → es.length = count → body = es.flatten →
          (busy = true ↔
            (t = .camp ∧ ∃ k : Fin 4, start ≤ k.val ∧ k.val < start + count ∧ s.runs[k].state ≠ .idle) ∨
            ((t = .gate ∨ t = .bins) ∧
              ((∃ k : Fin 4, s.runs[k].state ≠ .idle) ∨ ∃ b : Fin 8, s.banks[b].state ≠ .free))) →
          (busy = true → exec (.loadTable tag c.payload) s = answered s s.toPart c .busy []) ∧
          (∀ j e, busy = false → es[j]? = some e → entryOk t e = false → (∀ x ∈ es.take j, entryOk t x = true) →
            exec (.loadTable tag c.payload) s = answered s s.toPart c .badParam (be 2 (start + j))) ∧
          (busy = false → (∀ e ∈ es, entryOk t e = true) →
            (t = .corr ∨ t = .thresh ∨ t = .finder ∨ t = .tracker) → s.engine.inHand ≠ none →
            exec (.loadTable tag c.payload) s = .next { s with link := { s.link with held := some (.deferredLoad c t) } }) ∧
          (busy = false → (∀ e ∈ es, entryOk t e = true) →
            (s.engine.inHand = none ∨ ¬(t = .corr ∨ t = .thresh ∨ t = .finder ∨ t = .tracker)) →
            exec (.loadTable tag c.payload) s =
              answered s (s.writeEntries t start es) c .ok (id :: (be 2 start ++ be 2 count))))))

/-- An accepted load and READ_TABLE agree (R150, R151, R171): the entries written read back byte for byte, with the clamps of R2,
R99 and R120, and every other entry of every table reads as before. -/
def Obligations.StoredEntriesReadBack : Prop :=
  ∀ (p : Part) (t : TableId) (start : Nat) (es : List (List Byte)),
    (∀ e ∈ es, e.length = tableSize t ∧ entryOk t e = true) → es ≠ [] → start + es.length ≤ tableEntries t →
    (∀ j e, es[j]? = some e → t ≠ .cadence → t ≠ .finder → t ≠ .tracker →
      (p.writeEntries t start es).entryBytes t (start + j) = e) ∧
    (∀ i, i < start ∨ start + es.length ≤ i → i < tableEntries t →
      (p.writeEntries t start es).entryBytes t i = p.entryBytes t i) ∧
    (∀ u i, u ≠ t → (p.writeEntries t start es).entryBytes u i = p.entryBytes u i) ∧
    (∀ a b w r : Byte, t = .cadence → es = [[a, b, w, r]] → ∀ period, period = max 200 (a.toNat * 256 + b.toNat) →
      (p.writeEntries t start es).cadence =
        { slotPeriod := period, fireWidth := max 1 (min (min 20 (period / 4)) w.toNat), run := decide (r = 1) } ∧
      (p.writeEntries t start es).entryBytes .cadence 0 =
        be 2 period ++ [byte (max 1 (min (min 20 (period / 4)) w.toNat)), r]) ∧
    (∀ (mIn mOut : Byte) (rest : List Byte), t = .finder → es = [mIn :: mOut :: rest] →
      (p.writeEntries t start es).entryBytes .finder 0 =
        byte (max 1 (min 8 mIn.toNat)) :: byte (max 1 (min 8 mOut.toNat)) :: rest) ∧
    (∀ (gate : Nat) (rest : List Byte), t = .tracker → gate < 65536 → es = [be 2 gate ++ rest] →
      (p.writeEntries t start es).entryBytes .tracker 0 = be 2 (max 10 (min 2000 gate)) ++ rest)

/-- The effects of a load beside its entries (R3, R19, R29, R60, R63, R87): GATE and BINS advance the gate generation and make a
VALID dark reference STALE; CADENCE acts on the generator; ROTATING resets the list; HEAD raises LASER_BLOCKED when a permitted
laser becomes blocked. -/
def Obligations.LoadSideEffects : Prop :=
  ∀ (p : Part) (start : Nat) (es : List (List Byte)),
    (∀ t, t = .gate ∨ t = .bins →
      (p.writeEntries t start es).gates.generation = (p.gates.generation + 1) % 256 ∧
      (p.writeEntries t start es).engine.dark.state = (if p.engine.dark.state = .none then .none else .stale) ∧
      (p.writeEntries t start es).engine.dark.values = p.engine.dark.values ∧
      (p.writeEntries t start es).status = p.status) ∧
    (∀ a b w r : Byte, es = [[a, b, w, r]] → ∀ period, period = max 200 (a.toNat * 256 + b.toNat) →
      (p.gen = .stopped → (p.writeEntries .cadence start es).gen = if r = 1 then .running period else .stopped) ∧
      (∀ n, p.gen = .running n → (p.writeEntries .cadence start es).gen = if r = 1 then .running n else .ending n) ∧
      (∀ n, p.gen = .ending n → (p.writeEntries .cadence start es).gen = if r = 1 then .running n else .ending n)) ∧
    (p.writeEntries .arb start [[1]]).arb = { p.arb with mode := .rotating, order := [0, 1, 2, 3] } ∧
    (p.writeEntries .arb start [[0]]).arb = { p.arb with mode := .fixed } ∧
    ((p.writeEntries .head start es).status.flags =
      if p.permitted = true ∧ (p.writeEntries .head start es).permitted = false
      then p.status.flags ||| Flag.laserBlocked.mask else p.status.flags)

/-! ### Campaigns -/

/-- START in READY (R23, R24): the refusals in their order; then a free bank, 2k first, opens with the run settings of the entry,
or the campaign waits and BANK_WAIT rises; the reply carries the campaign state. Autostart (R38) takes C0, C1, C2, C3 in that
order: a campaign with autostart = 1 that passes checks 2 to 4 takes its bank, or waits, in the same way, any other stays as it
is; nothing is answered and no flag rises. -/
def Obligations.StartOpensBank : Prop :=
  (∀ (tag b : Byte) (s : State) (c : Command), s.takesAtOnce = true → s.boot = .ready →
    c = { kind := 0x08, tag := tag, payload := [b] } →
    (4 ≤ b.toNat → exec (.start tag [b]) s = answered s s.toPart c .badParam []) ∧
    (∀ (k : Fin 4) (e : RunSettings), b.toNat = k → e = s.campTable[k].settings →
      (s.runs[k].state ≠ .idle → exec (.start tag [b]) s = answered s s.toPart c .busy []) ∧
      (s.runs[k].state = .idle → s.gates.valid = false → exec (.start tag [b]) s = answered s s.toPart c .gateInvalid []) ∧
      (s.runs[k].state = .idle → s.gates.valid = true → e.sort = true → ¬(e.sortLo < e.sortHi ∧ e.sortHi < s.gates.nb) →
        exec (.start tag [b]) s = answered s s.toPart c .rangeInvalid []) ∧
      (s.runs[k].state = .idle → s.gates.valid = true → (e.sort = true → e.sortLo < e.sortHi ∧ e.sortHi < s.gates.nb) →
        (∀ odd : Bool, s.banks[bankOf k odd].state = .free → (odd = true → s.banks[bankOf k false].state ≠ .free) →
          exec (.start tag [b]) s = answered s
            { s.toPart with
              runs := s.runs.set k { s.runs[k] with state := .active odd, remaining := s.campTable[k].shots }
              banks := s.banks.set (bankOf k odd) { Bank.cleared with state := .filling, settings := e } } c .ok [1]) ∧
        (∀ q : Part, (∀ odd : Bool, s.banks[bankOf k odd].state ≠ .free) →
          q = { s.toPart with
            runs := s.runs.set k { s.runs[k] with state := .waitBank, remaining := s.campTable[k].shots } } →
          exec (.start tag [b]) s = answered s (q.raise .bankWait) c .ok [2])))) ∧
  (∀ p : Part, p.autostart = (((p.autostartOne 0).autostartOne 1).autostartOne 2).autostartOne 3) ∧
  (∀ (p : Part) (k : Fin 4) (e : RunSettings) (passes : Bool), e = p.campTable[k].settings →
    (passes = true ↔ p.campTable[k].autostart = true ∧ p.runs[k].state = .idle ∧ p.gates.valid = true ∧
      (e.sort = true → e.sortLo < e.sortHi ∧ e.sortHi < p.gates.nb)) →
    (passes = false → p.autostartOne k = p) ∧
    (∀ odd : Bool, passes = true → p.banks[bankOf k odd].state = .free →
      (odd = true → p.banks[bankOf k false].state ≠ .free) → p.autostartOne k =
        { p with
          runs := p.runs.set k { p.runs[k] with state := .active odd, remaining := p.campTable[k].shots }
          banks := p.banks.set (bankOf k odd) { Bank.cleared with state := .filling, settings := e } }) ∧
    (passes = true → (∀ odd : Bool, p.banks[bankOf k odd].state ≠ .free) → p.autostartOne k =
      { p with runs := p.runs.set k { p.runs[k] with state := .waitBank, remaining := p.campTable[k].shots } }))

/-- STOP, HOLD and RESUME in READY (R25, R26, R72): a number above 3 is refused; STOP discards the filling bank, makes the
campaign IDLE and marks its shot abandoned; HOLD and RESUME write the held flag alone. -/
def Obligations.StopHoldResume : Prop :=
  ∀ (tag b : Byte) (s : State), s.takesAtOnce = true → s.boot = .ready →
    (4 ≤ b.toNat →
      exec (.stop tag [b]) s = answered s s.toPart { kind := 0x09, tag := tag, payload := [b] } .badParam [] ∧
      exec (.hold tag [b]) s = answered s s.toPart { kind := 0x0A, tag := tag, payload := [b] } .badParam [] ∧
      exec (.resume tag [b]) s = answered s s.toPart { kind := 0x0B, tag := tag, payload := [b] } .badParam []) ∧
    (∀ (k : Fin 4) (q : Part), b.toNat = k →
      q = { s.toPart with
        shot := s.shot.map fun x => { x with abandoned := x.abandoned || decide (x.campaign = k) } } →
      (s.runs[k].state = .idle → exec (.stop tag [b]) s =
        answered s q { kind := 0x09, tag := tag, payload := [b] } .ok []) ∧
      (s.runs[k].state = .waitBank → exec (.stop tag [b]) s =
        answered s { q with runs := s.runs.set k { s.runs[k] with state := .idle, remaining := 0 } }
          { kind := 0x09, tag := tag, payload := [b] } .ok []) ∧
      (∀ odd, s.runs[k].state = .active odd → exec (.stop tag [b]) s =
        answered s
          { q with
            runs := s.runs.set k { s.runs[k] with state := .idle, remaining := 0 }
            banks := s.banks.set (bankOf k odd) Bank.cleared }
          { kind := 0x09, tag := tag, payload := [b] } .ok []) ∧
      exec (.hold tag [b]) s =
        answered s { s.toPart with runs := s.runs.set k { s.runs[k] with held := true } }
          { kind := 0x0A, tag := tag, payload := [b] } .ok [] ∧
      exec (.resume tag [b]) s =
        answered s { s.toPart with runs := s.runs.set k { s.runs[k] with held := false } }
          { kind := 0x0B, tag := tag, payload := [b] } .ok [])

/-- Terminal count (R32, R33, R34, R70, R74): an accepted shot lowers remaining; at the last one the bank closes with the
sequence number, the counter advances, the bank joins the queue of a PROCESSING engine or is begun by an IDLE one, and the
campaign ends, opens its other bank, or waits with BANK_WAIT. -/
def Obligations.TerminalCount : Prop :=
  ∀ (p : Part) (k : Fin 4) (odd : Bool) (b o : Fin 8), p.runs[k].state = .active odd → b = bankOf k odd →
    o = bankOf k (!odd) →
    (1 < p.runs[k].remaining →
      p.countDown k = { p with runs := p.runs.set k { p.runs[k] with remaining := p.runs[k].remaining - 1 } }) ∧
    (p.runs[k].remaining ≤ 1 →
      (∀ h, p.engine.inHand = some h →
        (p.countDown k).banks[b] = { p.banks[b] with state := .closed, sequence := p.runs[k].sequence } ∧
        (p.countDown k).engine = { p.engine with queue := p.engine.queue ++ [b] }) ∧
      (p.engine.inHand = none → p.engine.queue = [] →
        (p.countDown k).banks[b] = { p.banks[b] with state := .processing, sequence := p.runs[k].sequence } ∧
        (p.countDown k).engine.queue = [] ∧ (p.countDown k).engine.inHand.map InHand.bank = some b) ∧
      ((p.engine.inHand = none → p.engine.queue = []) →
        (p.countDown k).runs[k].sequence = (p.runs[k].sequence + 1) % 65536 ∧
        (p.countDown k).runs[k].held = p.runs[k].held ∧ (p.countDown k).runs[k].completed = p.runs[k].completed ∧
        (∀ j : Fin 4, j ≠ k → (p.countDown k).runs[j] = p.runs[j]) ∧
        (∀ j : Fin 8, j ≠ b → j ≠ o → (p.countDown k).banks[j] = p.banks[j]) ∧
        (p.campTable[k].repeats = .once →
          (p.countDown k).runs[k].state = .idle ∧ (p.countDown k).runs[k].remaining = 0 ∧
          (p.countDown k).banks[o] = p.banks[o] ∧
          (p.countDown k).status.flags = p.status.flags ||| Flag.campaignEnd.mask) ∧
        (p.campTable[k].repeats = .continuous → p.banks[o].state = .free →
          (p.countDown k).runs[k].state = .active (!odd) ∧ (p.countDown k).runs[k].remaining = p.campTable[k].shots ∧
          (p.countDown k).banks[o] = { Bank.cleared with state := .filling, settings := p.campTable[k].settings } ∧
          (p.countDown k).status.flags = p.status.flags) ∧
        (p.campTable[k].repeats = .continuous → p.banks[o].state ≠ .free →
          (p.countDown k).runs[k].state = .waitBank ∧ (p.countDown k).runs[k].remaining = p.campTable[k].shots ∧
          (p.countDown k).banks[o] = p.banks[o] ∧
          (p.countDown k).status.flags = p.status.flags ||| Flag.bankWait.mask)))

/-! ### The sample port -/

/-- Words from their symbols, and lock and the receiver outside a record (R41, R42, R43, R44, R45). Every byte has a valid symbol, a
slipped line has none. A pair of symbols is a bad word exactly when one is a code violation, else the word of their bytes, the
high byte first; each pair is one word event, and a silent line gives none. Then the runs of good and bad words, the changes of
lock with LOCK_CHANGE, the settle count, the beginning of a record with its binding, and the loss of lock, which ends the shot in
flight LOST and makes a VALID dark reference STALE. The code itself is free (log 14); every clause holds whatever it is. -/
def Obligations.LockAndReceiver : Prop :=
  ((∀ b : Byte, (symbolOf b).byte? = some b) ∧ LineSymbol.slipped.byte? = none) ∧
  (∀ hi lo : LineSymbol,
    (wordOfSymbols hi lo = .bad ↔ hi.byte? = none ∨ lo.byte? = none) ∧
    (∀ v : Word16, wordOfSymbols hi lo = .good v ↔
      ∃ a b : Byte, hi.byte? = some a ∧ lo.byte? = some b ∧ v.toNat = a.toNat * 256 + b.toNat) ∧
    ∀ s : State, exec (.wordEvent (wordOfSymbols hi lo)) s = .next { s with toPart := s.toPart.takeSymbols [hi, lo] }) ∧
  (∀ (p : Part) (hi lo : LineSymbol) (rest : List LineSymbol), p.takeSymbols [] = p ∧
    p.takeSymbols (hi :: lo :: rest) = (p.takeSymbols [hi, lo]).takeSymbols rest) ∧
  (∀ (p : Part) (vs : List Word16),
    p.takeSymbols (vs.flatMap wordSymbols) = (vs.map LineWord.good).foldl Part.takeWord p) ∧
  ∀ (s : State) (n : Nat) (v : Word16),
    (s.port.lock = .unlocked n →
      exec (.wordEvent .bad) s = .next { s with port := { s.port with lock := .unlocked 0 } } ∧
      (n < 15 → exec (.wordEvent (.good v)) s = .next { s with port := { s.port with lock := .unlocked (n + 1) } }) ∧
      (∀ q : Part, 15 ≤ n → q = Part.raise { s.toPart with port := { s.port with lock := .locked 0 } } .lockChange →
        exec (.wordEvent (.good v)) s =
          .next { s with toPart := { q with port := { q.port with rx := .settle (if v = 0 then 1 else 0) } } })) ∧
    (s.port.lock = .locked n → n < 3 →
      (∀ m, s.port.rx = .settle m → exec (.wordEvent .bad) s =
        .next { s with port := { s.port with lock := .locked (n + 1), rx := .settle 0 } }) ∧
      (s.port.rx = .hunt → exec (.wordEvent .bad) s =
        .next { s with port := { s.port with lock := .locked (n + 1) } })) ∧
    (s.port.lock = .locked n →
      (∀ m, s.port.rx = .settle m → exec (.wordEvent (.good v)) s =
        .next { s with port := { s.port with
          lock := .locked 0
          rx := if v ≠ 0 then .settle 0 else if m < 3 then .settle (m + 1) else .hunt } }) ∧
      (s.port.rx = .hunt → v ≠ 0x3C5A → exec (.wordEvent (.good v)) s =
        .next { s with port := { s.port with lock := .locked 0, rx := if v = 0 then .hunt else .settle 0 } }) ∧
      (s.port.rx = .hunt → v = 0x3C5A → exec (.wordEvent (.good v)) s =
        .next { s with port := { s.port with
          lock := .locked 0
          rx := .record { words := [some 0x3C5A], sum := 0, corrupt := false, outOfRange := false, clips := []
                          bound := if s.shot = none then .none else .inFlight } } })) ∧
    (∀ q : Part, s.port.lock = .locked n → 3 ≤ n →
      q = Part.raise { s.toPart with port := { s.port with lock := .unlocked 0 } } .lockChange →
      (s.shot = none → exec (.wordEvent .bad) s =
        .next { s with toPart := { q with
          port := { q.port with rx := .off }
          engine := { q.engine with dark := { q.engine.dark with
            state := if q.engine.dark.state = .none then .none else .stale } } } }) ∧
      (∀ (x : Shot) (r : Part), s.shot = some x →
        r = Part.rejectShot { q with port := { q.port with rx := .off } } x .lost none none →
        exec (.wordEvent .bad) s =
          .next { s with toPart := { r with
            engine := { r.engine with dark := { r.engine.dark with
              state := if r.engine.dark.state = .none then .none else .stale } } } }))

/-- A whole record (R45, R46, R47, R54), with bad words in it or without: from a LOCKED port in HUNT, SYNC, any 4,100 words and a
check word, no four bad ones in a row among them, bring the part to the verdict. A bad word takes its position without a value
and sets the corrupt mark; the record holds the good words, their sum, the range mark over positions 6 to 4101 and the clip notes
of the range samples. A record with a bad word ends the shot in flight CHECK. (Four bad words in a row end the lock:
LockAndReceiver.) -/
def Obligations.WholeRecordIsJudged : Prop :=
  ∀ (p q : Part) (n : Nat) (ws : List LineWord) (check : LineWord), p.port.lock = .locked n → p.port.rx = .hunt →
    ws.length = 4100 → (∀ pre post, ws ++ [check] ≠ pre ++ [.bad, .bad, .bad, .bad] ++ post) →
    q = { p with port := { p.port with lock := .locked (badTail (ws ++ [check])) } } → ∃ r : Record,
    (([LineWord.good 0x3C5A] ++ ws ++ [check]).foldl Part.takeWord p) = q.judge r check ∧
    r.words = some 0x3C5A :: ws.map wordValue ∧ (r.corrupt = true ↔ .bad ∈ ws) ∧
    r.bound = (if p.shot = none then .none else .inFlight) ∧
    r.sum.toNat = ((ws.filterMap wordValue).map BitVec.toNat).sum % 65536 ∧
    (r.outOfRange = true ↔ ∃ j v, 4 ≤ j ∧ ws[j]? = some (.good v) ∧ 16383 < v.toNat) ∧
    (∀ i : Nat, i ∈ r.clips ↔ ∃ v, ws[68 + i]? = some (.good v) ∧ v.toNat = 16383) ∧
    (∀ v, ws[0]? = some (.good v) → r.tag = v.extractLsb' 0 8 ∧ r.digFault = v.getLsbD 8) ∧
    (∀ v, ws[1]? = some (.good v) → r.energy = v.toNat) ∧ (∀ v, ws[2]? = some (.good v) → r.sampleCount = v.toNat) ∧
    (∀ v, ws[3]? = some (.good v) → r.preCount = v.toNat) ∧
    (∀ x, p.shot = some x → .bad ∈ ws ∨ check = .bad → q.judge r check = q.rejectShot x .check none none)

/-- The verdict at the check word (R47, R48, R50, R51, R52, R53): the checks in their order. An orphan only raises SHOT_REJECT; a
rejection ends the bound shot with its reason; a TAG rejection also sets the trigger count; an abandoned shot ends without
reaching a bank; an accepted record charges, adds, counts down and is noted. -/
def Obligations.RecordVerdict : Prop :=
  ∀ (s : State) (n : Nat) (r : Record) (w : LineWord) (q : Part), s.port.lock = .locked n → s.port.rx = .record r →
    r.words.length = 4101 → (w = .bad → n < 3) →
    q = { s.toPart with port := { s.port with lock := if w = .bad then .locked (n + 1) else .locked 0, rx := .hunt } } →
    ((r.bound ≠ .inFlight ∨ s.shot = none) → exec (.wordEvent w) s = .next { s with toPart := q.raise .shotReject }) ∧
    (∀ (x : Shot) (sound : Bool), s.shot = some x → r.bound = .inFlight →
      (sound = true ↔ w = .good r.sum ∧ r.corrupt = false) →
      (sound = false → exec (.wordEvent w) s = .next { s with toPart := q.rejectShot x .check none none }) ∧
      (sound = true → (r.sampleCount ≠ 4096 ∨ r.preCount ≠ 64 ∨ r.outOfRange = true) →
        exec (.wordEvent w) s = .next { s with toPart := q.rejectShot x .format (some r.tag) (some r.energy) }) ∧
      (sound = true → r.sampleCount = 4096 → r.preCount = 64 → r.outOfRange = false → r.digFault = true →
        exec (.wordEvent w) s = .next { s with toPart := q.rejectShot x .fault (some r.tag) (some r.energy) }) ∧
      (∀ t : Part, sound = true → r.sampleCount = 4096 → r.preCount = 64 → r.outOfRange = false → r.digFault = false →
        (r.tag ≠ x.expectedTag → t = q.rejectShot x .tag (some r.tag) (some r.energy) →
          exec (.wordEvent w) s = .next { s with toPart := { t with arb := { t.arb with triggerCount := r.tag } } }) ∧
        (r.tag = x.expectedTag → x.abandoned = true →
          t = Part.chargeShot { q with shot := none, port := { q.port with timer := none } } (some r.energy) →
          exec (.wordEvent w) s = .next { s with toPart := { t with port := { t.port with
            lastEnd := some { outcome := .abandoned, reason := .stop, campaign := x.campaign, kind := x.kind
                              expectedTag := x.expectedTag, receivedTag := some r.tag, energy := some r.energy } } } }) ∧
        (∀ u : Part, r.tag = x.expectedTag → x.abandoned = false →
          t = Part.chargeShot { q with shot := none, port := { q.port with timer := none } } (some r.energy) →
          u = Part.countDown
            { t with banks := t.banks.set x.target (t.banks[x.target].add t.gates r x.kind t.ticks) } x.campaign →
          exec (.wordEvent w) s = .next { s with toPart := { u with port := { u.port with
            lastEnd := some { outcome := .accepted, reason := .none, campaign := x.campaign, kind := x.kind
                              expectedTag := x.expectedTag, receivedTag := some r.tag
                              energy := some r.energy } } } })))

/-- A rejected shot end (R45, R49, R52, R56, R57) and RECORD_TIMEOUT (R55): the shot and its timer go, its record in progress is bound to
an ended shot, SHOT_REJECT is set, a pending charge goes to the bucket, the end is noted, and the target bank counts the
rejection unless the shot is abandoned; campaigns and arbiter stay. The end goes through the Emission Monitor (R9, R10): a trusted E
above the pending charge latches OVERENERGY, and raises it, and LASER_BLOCKED from a permitted laser, when the latch was clear.
SHOT_REJECT rises before that, or after it for an abandoned shot: this order of the rises inside the one event, and with it the
content of a notice begun in the event, is the model's reading (log 5, DEDUCED, unsafe). With the timer stopped a timeout changes
nothing (log 2). -/
def Obligations.ShotEndsRejected : Prop :=
  (∀ s : State, s.port.timer = none → exec .recordTimeout s = .next s) ∧
  (∀ (s : State) (x : Shot) (limit : Nat), s.port.timer = some limit → s.shot = some x →
    exec .recordTimeout s = .next { s with toPart := s.rejectShot x .timeout none none }) ∧
  (∀ (p : Part) (x : Shot) (reason : ShotReason) (tag : Option Byte) (energy : Option Nat) (t : Part),
    t = p.rejectShot x reason tag energy →
    t.shot = none ∧ t.port.timer = none ∧ t.port.lock = p.port.lock ∧ t.runs = p.runs ∧ t.arb = p.arb ∧
    t.campTable = p.campTable ∧ t.gates = p.gates ∧ t.sky = p.sky ∧ t.pendingCharge = none ∧
    t.status.flags.getLsbD 7 = true ∧
    t.port.lastEnd = some { outcome := .rejected, reason := reason, campaign := x.campaign, kind := x.kind
                            expectedTag := x.expectedTag, receivedTag := tag, energy := energy } ∧
    (∀ r, p.port.rx = .record r →
      t.port.rx = .record { r with bound := if r.bound = .inFlight then .ended else r.bound }) ∧
    ((∀ r, p.port.rx ≠ .record r) → t.port.rx = p.port.rx) ∧
    t.bucket = (match p.pendingCharge with | some c => min (p.bucket + energy.getD c) 16777215 | none => p.bucket) ∧
    (x.abandoned = true → t.banks = p.banks) ∧
    (x.abandoned = false → t.banks =
      p.banks.set x.target { p.banks[x.target] with rejected := min (p.banks[x.target].rejected + 1) 65535 }) ∧
    (∀ above : Bool, (above = true ↔ ∃ c e, p.pendingCharge = some c ∧ energy = some e ∧ c < e) →
      t.overEnergy = (p.overEnergy || above) ∧
      t.status.flags = p.status.flags ||| Flag.shotReject.mask |||
        (if p.overEnergy = false ∧ above = true then
          Flag.overEnergy.mask ||| (if p.permitted then Flag.laserBlocked.mask else 0) else 0)) ∧
    (∀ q u : Part, q = { p with
        shot := none
        port := { p.port with
          timer := none
          rx := match p.port.rx with
            | .record r => .record { r with bound := if r.bound = .inFlight then .ended else r.bound }
            | rx => rx } } →
      (x.abandoned = false →
        u = Part.chargeShot (Part.raise { q with
          banks := p.banks.set x.target { p.banks[x.target] with rejected := min (p.banks[x.target].rejected + 1) 65535 } }
          .shotReject) energy →
        t = { u with port := { u.port with lastEnd := t.port.lastEnd } }) ∧
      (x.abandoned = true → u = q.chargeShot energy →
        t = Part.raise { u with port := { u.port with lastEnd := t.port.lastEnd } } .shotReject)))

/-- An accepted record in a bank (R54, R68, R69): each active bin gains the sum of its range samples, the pre-trigger sum the 64
pre-trigger samples, ESUM the energy of a lit shot, the accepted count one; the ticks are noted; each active bin with a noted
sample is marked, and the clipped-shot count rises by one if there is such a bin. -/
def Obligations.RecordAddedToBank : Prop :=
  ∀ (b t : Bank) (g : Gates) (r : Record) (kind : Kind) (tick : Nat), g.nb ≤ 512 → r.words.length = 4101 →
    t = b.add g r kind tick →
    (∀ i : Fin 512, t.sums[i] = b.sums[i] +
      (if i < g.nb then ((List.range g.table[i].w).map fun j => (r.wordAt (70 + g.table[i].s + j)).toNat).sum else 0)) ∧
    t.pre = b.pre + ((List.range 64).map fun j => (r.wordAt (6 + j)).toNat).sum ∧
    t.esum = b.esum + (if kind = .lit then r.energy else 0) ∧ t.accepted = b.accepted + 1 ∧
    t.firstTick = (if b.accepted = 0 then tick else b.firstTick) ∧ t.lastTick = tick ∧
    (∀ i : Fin 512, t.clipMap[i] = true ↔
      b.clipMap[i] = true ∨ (i < g.nb ∧ ∃ c ∈ r.clips, g.table[i].s ≤ c ∧ c < g.table[i].s + g.table[i].w)) ∧
    (t.clippedShots = if ∃ i : Fin 512, i < g.nb ∧ ∃ c ∈ r.clips, g.table[i].s ≤ c ∧ c < g.table[i].s + g.table[i].w
      then min (b.clippedShots + 1) 65535 else b.clippedShots) ∧
    t.state = b.state ∧ t.settings = b.settings ∧ t.sequence = b.sequence ∧ t.fired = b.fired ∧ t.rejected = b.rejected

/-! ### The profile engine -/

/-- PROFILE_COMPLETE (R77, R78, R85, R86, R94): with the engine IDLE nothing happens (log 2). With no bank, deferred command or queued
command behind it, and no profile to send: a DARK bank writes the dark reference, a LIT bank without sorting leaves nothing, a
sorting one runs its sorting pass with the layers found in its values; the bank becomes FREE and its owner counts it. -/
def Obligations.ProfileCompletes : Prop :=
  (∀ s : State, s.engine.inHand = none → exec .profileComplete s = .next s) ∧
  (∀ (s : State) (h : InHand) (b : Bank) (k : Fin 4) (banks : Vector Bank 8) (runs : Vector Run 4),
    s.engine.inHand = some h → b = s.banks[h.bank] → k.val = h.bank.val / 2 → s.engine.queue = [] → s.link.held = none →
    s.link.commands = [] → b.settings.sendProfile = false → s.runs[k].state ≠ .waitBank →
    banks = s.banks.set h.bank { b with state := .free } →
    runs = s.runs.set k { s.runs[k] with completed := (s.runs[k].completed + 1) % 65536 } →
    (h.lit = none → exec .profileComplete s = .next { s with
      banks := banks
      runs := runs
      engine := { s.engine with
        inHand := none
        dark := { state := .valid
                  source := some (k, b.sequence)
                  values := Vector.ofFn fun i => if i < s.gates.nb
                    then stage1 b.sums[i] s.gates.table[i].w b.pre b.accepted else s.engine.dark.values[i] } } }) ∧
    (∀ l, h.lit = some l → b.settings.sort = false → exec .profileComplete s =
      .next { s with banks := banks, runs := runs, engine := { s.engine with inHand := none } }) ∧
    (∀ (l : LitInputs) (q : Part), h.lit = some l → b.settings.sort = true →
      q = s.sortingPass k b (b.profileFlags s.gates s.corr l)
        (findLayers s.finder (binViews s.gates s.thresh b ((List.range s.gates.nb).map (b.beta s.gates s.corr l)))) →
      exec .profileComplete s =
        .next { s with toPart := { q with banks := banks, runs := runs, engine := { q.engine with inHand := none } } }))

/-- The values of a bank (R75, R78, R80 to R83): one per active bin, β through the four stages for LIT and stage 1 for DARK; the
profile flags of a LIT bank, bit by bit; and what the finder is handed (R94, R98, R100): the bins sort_lo to sort_hi of the bank,
each with its heights, span, value, clip flag and thresholds. -/
def Obligations.BankValuesAndFlags : Prop :=
  ∀ (b : Bank) (g : Gates) (corr : Vector CorrEntry 512) (l : LitInputs), g.nb ≤ 512 →
    (b.values g corr (some l)).length = g.nb ∧ (b.values g corr none).length = g.nb ∧
    (∀ i : Fin 512, i < g.nb →
      (b.values g corr none)[i.val]? = some (stage1 b.sums[i] g.table[i].w b.pre b.accepted) ∧
      (b.values g corr (some l))[i.val]? = some (stage4 corr[i]
        (stage3 l.eRef b.accepted b.esum (stage2 l.dark i (stage1 b.sums[i] g.table[i].w b.pre b.accepted))))) ∧
    (b.profileFlags g corr l).getLsbD 0 = l.eRefHeld ∧
    ((b.profileFlags g corr l).getLsbD 1 = true ↔ l.dark.state ≠ .valid) ∧
    ((b.profileFlags g corr l).getLsbD 2 = true ↔ b.esum = 0) ∧
    ((b.profileFlags g corr l).getLsbD 3 = true ↔ 1 ≤ b.esum ∧ 4 * b.esum < l.eRef * b.accepted) ∧
    ((b.profileFlags g corr l).getLsbD 4 = true ↔ ∃ i : Fin 512, i < g.nb ∧
      2147483647 < (roundDiv ((stage3 l.eRef b.accepted b.esum (stage2 l.dark i
        (stage1 b.sums[i] g.table[i].w b.pre b.accepted))) * corr[i].m * 2 ^ corr[i].k) 1048576).natAbs) ∧
    (∀ j, 5 ≤ j → (b.profileFlags g corr l).getLsbD j = false) ∧
    (∀ (thresh : Vector ThreshEntry 512) (values : List Int), b.settings.sortLo ≤ b.settings.sortHi →
      b.settings.sortHi ≤ 511 →
      (binViews g thresh b values).length = b.settings.sortHi + 1 - b.settings.sortLo ∧
      (∀ (i : Fin 512) (v : Int), b.settings.sortLo ≤ i → i ≤ b.settings.sortHi → values[i.val]? = some v →
        (binViews g thresh b values)[i.val - b.settings.sortLo]? =
          some { index := i, base := 5 * g.table[i].s, top := 5 * (g.table[i].s + g.table[i].w), span := 5 * g.table[i].w
                 beta := v, clipped := b.clipMap[i], tc := thresh[i].tc, th := thresh[i].th }))

/-- The steps of profile complete (R35, R71, R74, R75, R77, R78, R86, R90, R91, R93, R94, R153). Step 1: a DARK bank writes the dark
reference, a LIT bank without sorting leaves nothing, a sorting one runs its pass. Step 2, with send_profile = 1: a profile with
the bank's counts, ticks, settings and values, the E_ref used, and the source of the dark reference only when it was applied,
enters an empty slot with the skipped count, or is skipped. Step 3: a freed bank keeps its contents and counts for its owner, or
opens for a WAIT_BANK owner. Step 5: an IDLE engine begins the head of the queue with E_ref and the dark reference fixed. -/
def Obligations.EngineSteps : Prop :=
  (∀ (p : Part) (h : InHand) (b : Bank) (k : Fin 4), b = p.banks[h.bank] → k.val = h.bank.val / 2 →
    (h.lit = none → p.results h = { p with engine := { p.engine with
      dark := { state := .valid
                source := some (k, b.sequence)
                values := Vector.ofFn fun i => if i < p.gates.nb
                  then stage1 b.sums[i] p.gates.table[i].w b.pre b.accepted else p.engine.dark.values[i] } } }) ∧
    (∀ l, h.lit = some l → b.settings.sort = false → p.results h = p) ∧
    (∀ l, h.lit = some l → b.settings.sort = true → p.results h =
      p.sortingPass k b (b.profileFlags p.gates p.corr l)
        (findLayers p.finder (binViews p.gates p.thresh b (b.values p.gates p.corr (some l))))) ∧
    p.profileInHand h =
      { campaign := k, kind := b.settings.kind, sequence := b.sequence, firstTick := b.firstTick, lastTick := b.lastTick
        accepted := b.accepted, fired := b.fired, rejected := b.rejected, clippedShots := b.clippedShots, esum := b.esum
        eRef := h.lit.map LitInputs.eRef, generation := p.gates.generation, nb := p.gates.nb
        flags := match h.lit with | some l => b.profileFlags p.gates p.corr l | none => 0
        skipped := p.engine.skipped
        darkSource := match h.lit with | some l => if l.dark.state = .valid then l.dark.source else none | none => none
        values := b.values p.gates p.corr h.lit } ∧
    (∀ f, (b.settings.sendProfile = true → p.profileStep h f = p.offerProfile f) ∧
      (b.settings.sendProfile = false → p.profileStep h f = p))) ∧
  (∀ (p : Part) (b : Fin 8) (k : Fin 4) (r : Run), k.val = b.val / 2 →
    r = { p.runs[k] with completed := (p.runs[k].completed + 1) % 65536 } →
    (p.runs[k].state ≠ .waitBank → p.freeBank b =
      { p with banks := p.banks.set b { p.banks[b] with state := .free }, runs := p.runs.set k r }) ∧
    (p.runs[k].state = .waitBank → p.freeBank b =
      { p with
        banks := p.banks.set b { Bank.cleared with state := .filling, settings := p.campTable[k].settings }
        runs := p.runs.set k { r with state := .active (decide (b.val % 2 = 1)) } })) ∧
  (∀ (p : Part) (b : Fin 8) (rest : List (Fin 8)) (k : Fin 4) (banks : Vector Bank 8) (e : Nat) (held : Bool),
    p.engine.inHand = none → p.engine.queue = b :: rest → k.val = b.val / 2 →
    banks = p.banks.set b { p.banks[b] with state := .processing } →
    ((∃ c, p.head = .verified c ∧ e = p.headTable[c].eRef ∧ held = false) ∨
      ((∀ c, p.head ≠ .verified c) ∧ e = p.engine.lastERef[k] ∧ held = true)) →
    (p.banks[b].settings.kind = .dark → p.beginNext =
      { p with banks := banks, engine := { p.engine with inHand := some { bank := b, lit := none }, queue := rest } }) ∧
    (p.banks[b].settings.kind = .lit → p.beginNext =
      { p with
        banks := banks
        engine := { p.engine with
          inHand := some { bank := b, lit := some { eRef := e, eRefHeld := held, dark := p.engine.dark } }
          queue := rest
          lastERef := p.engine.lastERef.set k e } })) ∧
  (∀ p : Part, p.engine.inHand ≠ none ∨ p.engine.queue = [] → p.beginNext = p) ∧
  (∀ (p : Part) (f : Profile),
    (∀ g, p.engine.slot = .empty → p.link.sending = some g → p.offerProfile f =
      { p with engine := { p.engine with slot := .waiting f, skipped := 0 } }) ∧
    (p.engine.slot = .empty → p.link.sending = none → p.link.replies = [] → p.status.pendingSet = 0 →
      p.link.reports = [] → p.offerProfile f =
        { p with engine := { p.engine with slot := .sending, skipped := 0 }, link := { p.link with sending := some f.frame } }) ∧
    (p.engine.slot ≠ .empty → p.offerProfile f =
      Part.raise { p with engine := { p.engine with skipped := min (p.engine.skipped + 1) 255 } } .profileSkipped))

/-- Deferral (R88, R89, R134): TRACK_CLEAR in READY empties the table and sets the next id to 1, SP kept, or is held while the
engine is PROCESSING; a held clear or load is applied at step 4 of profile complete as if taken then, and its reply queued. -/
def Obligations.DeferredCommands : Prop :=
  (∀ (tag : Byte) (s : State) (c : Command), s.takesAtOnce = true → s.boot = .ready →
    c = { kind := 0x11, tag := tag, payload := [] } →
    (s.engine.inHand = none → exec (.trackClear tag []) s =
      answered s { s.toPart with sky := { tracks := [], nextId := 1, sp := s.sky.sp } } c .ok []) ∧
    (s.engine.inHand ≠ none → exec (.trackClear tag []) s =
      .next { s with link := { s.link with held := some (.deferredClear c) } })) ∧
  (∀ (s : State) (h : InHand) (t : Part), s.engine.inHand = some h →
    t = ((((s.results h).profileStep h (s.profileInHand h)).freeBank h.bank).applyDeferred).nextBank →
    exec .profileComplete s = .next { s with toPart := t.takeCommands }) ∧
  (∀ (p : Part) (c : Command),
    (p.link.held = some (.deferredClear c) → p.applyDeferred =
      Part.answer { p with sky := { tracks := [], nextId := 1, sp := p.sky.sp }, link := { p.link with held := none } } c .ok []) ∧
    (∀ (t : TableId) (id : Byte) (start count : Nat) (es : List (List Byte)), start < 65536 → count < 65536 →
      (∀ e ∈ es, e.length = tableSize t) → es.length = count →
      c.payload = id :: (be 2 start ++ be 2 count ++ es.flatten) → p.link.held = some (.deferredLoad c t) →
      p.applyDeferred =
        Part.answer (Part.writeEntries { p with link := { p.link with held := none } } t start es) c .ok
          (id :: (be 2 start ++ be 2 count))) ∧
    ((∀ d t, p.link.held ≠ some (.deferredLoad d t)) →
      (∀ d, p.link.held ≠ some (.deferredClear d)) → p.applyDeferred = p))

/-! ### The layer finder -/

/-- Standings (R98): above threshold, below the release level, or between; never both; a clipped bin is above whatever its value. -/
def Obligations.BinStandings : Prop :=
  ∀ b : BinView, 1 ≤ b.tc →
    (b.above = true ↔ (b.tc : Int) ≤ b.beta ∨ b.clipped = true) ∧
    (b.below = true ↔ b.beta < ((b.tc / 2 : Nat) : Int) ∧ b.clipped = false) ∧
    ¬(b.above = true ∧ b.below = true) ∧ (b.tc = 1 → b.clipped = false → (b.below = true ↔ b.beta < 0))

/-- The detection list (R102, R103, R105, R106, R107, R109). The scan: a run of m_in bins above threshold met in CLEAR opens a layer
whose base is its first bin, wherever in the range it stands; a shorter run, and a bin that is not above, leave it in CLEAR; an open
layer is closed, and the scan CLEAR again, after m_out bins below the release level. The list: over bins of rising index, the
first twelve layers in order, each with the base and the peak β of its layer, and with its closed top exactly when a bin above
that top shows return; each base begins a run of m_in bins above threshold, and lies above the base and the top before it. -/
def Obligations.DetectionsOrdered : Prop :=
  (∀ (f : FinderEntry) (pre run post : List BinView) (after : List BinView → Scan),
    (∀ bs, after bs = bs.foldl (fun sc b => (sc.step f b).1) .clear) → 1 ≤ f.mIn →
    (after pre = .clear → scanFrom f .clear (pre ++ run ++ post) = scanFrom f .clear pre ++ scanFrom f .clear (run ++ post)) ∧
    (after pre = .clear → run.length = f.mIn → (∀ b ∈ run, b.above = true) →
      (∃ base last peak, run.head? = some base ∧ after (pre ++ run) = .inLayer base last peak) ∧
      ∃ l rest, scanFrom f .clear (run ++ post) = l :: rest ∧ run.head? = some l.base) ∧
    (∀ b : BinView, after pre = .clear → run.length < f.mIn → (∀ x ∈ run, x.above = true) → b.above = false →
      after (pre ++ run ++ [b]) = .clear) ∧
    (∀ base last peak, after pre = .inLayer base last peak → 1 ≤ f.mOut → run.length = f.mOut → (∀ b ∈ run, b.below = true) →
      after (pre ++ run) = .clear)) ∧
  (∀ (f : FinderEntry) (bins : List BinView) (ds : List Detection) (layers : List Layer),
    bins.Pairwise (fun a b => a.index < b.index) → ds = (findLayers f bins).detections → layers = scanFrom f .clear bins →
    ds.length = min 12 layers.length ∧
    (∀ (i : Nat) (l : Layer), i < 12 → layers[i]? = some l → ∃ d, ds[i]? = some d ∧
      d.baseBin = l.base.index ∧ d.base = l.base.base ∧ d.peak = l.peak.beta ∧
      (∀ t, l.top = some t → (∃ b ∈ bins, t.index < b.index ∧ 0 < b.th ∧ (b.th : Int) ≤ b.beta) →
        d.topBin = some t.index ∧ d.top = some t.top ∧ d.flags.topSeen = true) ∧
      ((∀ t, l.top = some t → ∀ b ∈ bins, t.index < b.index → b.th = 0 ∨ b.beta < (b.th : Int)) → d.topBin = none)) ∧
    ds.Pairwise (fun a b => a.baseBin < b.baseBin ∧ ∀ t, a.topBin = some t → t < b.baseBin) ∧
    (∀ d ∈ ds, ∃ pre run post, bins = pre ++ run ++ post ∧ run.length = max 1 f.mIn ∧ (∀ b ∈ run, b.above = true) ∧
      run.head?.map BinView.index = some d.baseBin ∧ run.head?.map BinView.base = some d.base) ∧
    (∀ d ∈ ds, ∀ t, d.topBin = some t → d.baseBin ≤ t ∧ d.flags.topSeen = true ∧
      (∃ b ∈ bins, b.index = t ∧ d.top = some b.top) ∧
      (∃ b ∈ bins, t < b.index ∧ 0 < b.th ∧ (b.th : Int) ≤ b.beta)) ∧
    (∀ d ∈ ds, d.topBin = none → d.top = none ∧ d.flags.topSeen = false))

/-- Layers (R103, R104, R105): over bins of rising index, the peak is the highest β from the base to the closed top, or to the end
of the range, taken at the lowest such bin. A closed top is followed by m_out bins below the release level and is itself not
below; a layer whose base lies under such a run of bins has a closed top under its last bin. -/
def Obligations.LayersAndPeaks : Prop :=
  (∀ (f : FinderEntry) (bins : List BinView), bins.Pairwise (fun a b => a.index < b.index) →
    ∀ l ∈ scanFrom f .clear bins, l.peak ∈ bins ∧ l.base ∈ bins ∧ l.base.index ≤ l.peak.index ∧
      (∀ t, l.top = some t → t ∈ bins ∧ l.peak.index ≤ t.index) ∧
      (∀ b ∈ bins, l.base.index ≤ b.index → (∀ t, l.top = some t → b.index ≤ t.index) →
        b.beta ≤ l.peak.beta ∧ (b.beta = l.peak.beta → l.peak.index ≤ b.index))) ∧
  (∀ (f : FinderEntry) (bins : List BinView), bins.Pairwise (fun a b => a.index < b.index) → 1 ≤ f.mIn → 1 ≤ f.mOut →
    ∀ l ∈ scanFrom f .clear bins,
      (∀ t, l.top = some t → ∃ pre run post, bins = pre ++ [t] ++ run ++ post ∧ run.length = f.mOut ∧
        (∀ b ∈ run, b.below = true) ∧ t.below = false) ∧
      (∀ pre run post, bins = pre ++ run ++ post → run.length = f.mOut → (∀ b ∈ run, b.below = true) →
        (∃ b ∈ pre, l.base.index = b.index) → ∃ t, l.top = some t ∧ ∀ b ∈ run.getLast?, t.index < b.index))

/-- Vertical visibility and haze top (R111 to R114), classes, flags, sky state and summary (R107, R108, R110, R115). The visibility
is the top of the first bin at which the running integral reaches the limit, or that of the last bin with VV_LIMITED; the haze
top is the top of the bin before the first run of m_out clear bins, when the first bin is a haze bin. FOG at or below
fog_floor, BELOW_RIDGE below ridge, CLIPPED over the bins that bound the detection; OBSCURED exactly when the lowest detection is
a FOG without a top. An OBSCURED profile carries the visibility of the whole sort range against vv_limit, with its VV_LIMITED;
any other carries none. -/
def Obligations.SkySummary : Prop :=
  (∀ (limit : Nat) (bins : List BinView), 1 ≤ limit → bins ≠ [] →
    (∀ h, visibility limit 0 0 bins = (h, false) ↔ ∃ pre b post, bins = pre ++ b :: post ∧ h = b.top ∧
      (pre.map fun x => x.beta.toNat * x.span).sum < limit ∧
      limit ≤ (pre.map fun x => x.beta.toNat * x.span).sum + b.beta.toNat * b.span) ∧
    (∀ h, visibility limit 0 0 bins = (h, true) ↔
      (bins.map fun x => x.beta.toNat * x.span).sum < limit ∧ bins.getLast?.map BinView.top = some h)) ∧
  (∀ (m : Nat) (bins : List BinView) (h : Nat), 1 ≤ m →
    (hazeTop m bins = some h ↔ ∃ pre b run post, bins = pre ++ b :: (run ++ post) ∧ h = b.top ∧ run.length = m ∧
      (∀ x ∈ run, x.haze = false) ∧ b.haze = true ∧ (∀ x, (pre ++ [b]).head? = some x → x.haze = true) ∧
      (∀ a r c, pre = a ++ r ++ c → r.length = m → ∃ x ∈ r, x.haze = true))) ∧
  (∀ (f : FinderEntry) (bins : List BinView) (r : Findings), r = findLayers f bins →
    (∀ d ∈ r.detections, (d.cls = .fog ↔ d.base ≤ f.fogFloor) ∧ (d.flags.belowRidge = true ↔ d.base < f.ridge) ∧
      (d.flags.clipped = true ↔ ∃ b ∈ bins, b.clipped = true ∧ d.baseBin ≤ b.index ∧
        ∀ t, d.topBin = some t → b.index ≤ t)) ∧
    (r.sky = .clear ↔ r.detections = []) ∧
    (r.sky = .obscured ↔ ∃ d rest, r.detections = d :: rest ∧ d.cls = .fog ∧ d.top = none) ∧
    (r.sky = .obscured → r.vv = some (visibility f.vvLimit 0 0 bins).1 ∧ r.vvLimited = (visibility f.vvLimit 0 0 bins).2) ∧
    (r.sky ≠ .obscured → r.vv = none ∧ r.vvLimited = false) ∧
    (r.layerLimit = true ↔ 12 < (scanFrom f .clear bins).length) ∧
    (∀ d rest, r.detections = d :: rest → r.haze = hazeTop f.mOut (bins.filter fun b => decide (b.index < d.baseBin))) ∧
    (r.detections = [] → r.haze = hazeTop f.mOut bins))

/-! ### Tracks and reports -/

/-- Matching (R122) and the change of one track (R123, R124, R127, R128). The chosen track is a candidate within the gate that no
other beats by distance, then lower base, then lower id; none only when none lies within the gate. The base is smoothed by the
shift and stays between the old and the observed one; the fields come from the detection; the states at a match and at a
miss; the age test. -/
def Obligations.TrackMatchAndChange : Prop :=
  (∀ (gate h : Nat) (ts : List Track),
    (bestMatch gate h ts = none ↔ ∀ t ∈ ts, gate < ((t.base : Int) - (h : Int)).natAbs) ∧
    (∀ u, bestMatch gate h ts = some u → u ∈ ts ∧ ((u.base : Int) - (h : Int)).natAbs ≤ gate ∧
      ∀ t ∈ ts, ((t.base : Int) - (h : Int)).natAbs ≤ gate →
        ((u.base : Int) - (h : Int)).natAbs < ((t.base : Int) - (h : Int)).natAbs ∨
        (((u.base : Int) - (h : Int)).natAbs = ((t.base : Int) - (h : Int)).natAbs ∧
          (u.base < t.base ∨ (u.base = t.base ∧ u.id ≤ t.id))))) ∧
  (∀ (t : Track) (e : TrackerEntry) (c : Fin 4) (sp : Nat) (d : Detection),
    (((t.matched e c sp d).base : Int) = t.base + roundDiv ((d.base : Int) - t.base) (2 ^ e.shift) ∧
      min t.base d.base ≤ (t.matched e c sp d).base ∧ (t.matched e c sp d).base ≤ max t.base d.base ∧
      (e.shift = 0 → (t.matched e c sp d).base = d.base)) ∧
    ((t.matched e c sp d).id = t.id ∧ (t.matched e c sp d).owner = c ∧ (t.matched e c sp d).top = d.top ∧
      (t.matched e c sp d).cls = d.cls ∧ (t.matched e c sp d).flags = d.flags ∧ (t.matched e c sp d).peak = d.peak ∧
      (t.matched e c sp d).hits = min (t.hits + 1) 255 ∧ (t.matched e c sp d).misses = 0 ∧
      (t.matched e c sp d).lastPass = sp) ∧
    (t.state = .tentative → (t.matched e c sp d).state =
      if min (t.hits + 1) 255 < e.confirmHits then .tentative else .confirmed) ∧
    (t.state ≠ .tentative → (t.matched e c sp d).state = .confirmed) ∧
    (t.owner ≠ c → t.missed e c = some t) ∧ (t.owner = c → t.state = .tentative → t.missed e c = none) ∧
    (t.owner = c → t.state ≠ .tentative → e.dropMisses ≤ min (t.misses + 1) 15 → t.missed e c = none) ∧
    (t.owner = c → t.state ≠ .tentative → min (t.misses + 1) 15 < e.dropMisses →
      t.missed e c = some { t with state := .coasting, misses := min (t.misses + 1) 15 }) ∧
    (sp < 65536 → t.lastPass < 65536 →
      (t.stale e sp = true ↔ e.staleLimit < if t.lastPass ≤ sp then sp - t.lastPass else sp + 65536 - t.lastPass)))

/-- One sorting pass (R121, R122, R125 to R128): SP advances; the table keeps its form; no stale track stays; every track left was
matched or created in the pass, or stood before it and took its miss; without detections no id is spent; none is discarded while
the table has room. Step by step: each detection takes its match or is left over; a leftover becomes a track with the
detection's base, top, class, flags and peak and the first free id from the counter on; in a full table it takes the place of the
COASTING track with the most misses, then the highest base, then the highest id, or is discarded. The part keeps the new table,
raises TRACK_FULL exactly when a detection is discarded, and places the report of that table. -/
def Obligations.SortingPass : Prop :=
  (∀ (y : Sky) (e : TrackerEntry) (c : Fin 4) (ds : List Detection), y.fits →
    (y.pass e c ds).1.sp = (y.sp + 1) % 65536 ∧ (y.pass e c ds).1.fits ∧
    (∀ t ∈ (y.pass e c ds).1.tracks, t.stale e ((y.sp + 1) % 65536) = false) ∧
    (∀ t ∈ (y.pass e c ds).1.tracks, t.lastPass = (y.sp + 1) % 65536 ∨
      ∃ o ∈ y.tracks, o.id = t.id ∧ o.missed e c = some t) ∧
    (∀ t ∈ (y.pass e c ds).1.tracks, t.lastPass = (y.sp + 1) % 65536 → (∀ o ∈ y.tracks, o.lastPass ≠ (y.sp + 1) % 65536) →
      t.owner = c ∧ t.misses = 0 ∧ t.state ≠ .coasting ∧ ∃ d ∈ ds, t.peak = d.peak ∧ t.top = d.top ∧ t.cls = d.cls) ∧
    (ds = [] → (y.pass e c ds).1.nextId = y.nextId ∧ (y.pass e c ds).2 = false) ∧
    (y.tracks.length + ds.length ≤ 8 → (y.pass e c ds).2 = false)) ∧
  (∀ (y : Sky) (e : TrackerEntry) (c : Fin 4) (ds : List Detection) (sp : Nat) (m : Matching) (k : Creation),
    sp = (y.sp + 1) % 65536 → m = matchAll e c sp ds { rest := y.tracks, fresh := [], unmatched := [] } →
    k = m.unmatched.foldl (Creation.place e c sp)
      { rest := m.rest, fresh := m.fresh, nextId := y.nextId, discarded := false } →
    y.pass e c ds =
      ({ tracks := (k.rest.filterMap (fun t => t.missed e c) ++ k.fresh).filter (fun t => !t.stale e sp)
         nextId := k.nextId, sp := sp }, k.discarded)) ∧
  (∀ (e : TrackerEntry) (c : Fin 4) (sp : Nat) (d : Detection) (ds : List Detection) (m : Matching),
    matchAll e c sp [] m = m ∧
    (bestMatch e.gate d.base m.rest = none →
      matchAll e c sp (d :: ds) m = matchAll e c sp ds { m with unmatched := m.unmatched ++ [d] }) ∧
    (∀ t, bestMatch e.gate d.base m.rest = some t → matchAll e c sp (d :: ds) m =
      matchAll e c sp ds { m with rest := m.rest.erase t, fresh := m.fresh ++ [t.matched e c sp d] })) ∧
  (∀ (e : TrackerEntry) (c : Fin 4) (sp : Nat) (k : Creation) (d : Detection),
    (∀ id, k.rest.length + k.fresh.length < 8 → id = freeId (k.rest ++ k.fresh) 8 k.nextId →
      Creation.place e c sp k d = { k with
        nextId := if 255 ≤ id then 1 else id + 1
        fresh := k.fresh ++ [{ id := id, state := if e.confirmHits = 1 then .confirmed else .tentative, owner := c
                               base := d.base, top := d.top, cls := d.cls, flags := d.flags, peak := d.peak, hits := 1
                               misses := 0, lastPass := sp }] }) ∧
    (∀ v, k.rest.length + k.fresh.length = 8 → victim k.rest = some v →
      Creation.place e c sp k d = Creation.place e c sp { k with rest := k.rest.erase v } d) ∧
    (8 ≤ k.rest.length + k.fresh.length → victim k.rest = none →
      Creation.place e c sp k d = { k with discarded := true })) ∧
  (∀ ts : List Track, (victim ts = none ↔ ∀ t ∈ ts, t.state ≠ .coasting) ∧
    (∀ v, victim ts = some v → v ∈ ts ∧ v.state = .coasting ∧ ∀ t ∈ ts, t.state = .coasting →
      t.misses < v.misses ∨ (t.misses = v.misses ∧ (t.base < v.base ∨ (t.base = v.base ∧ t.id ≤ v.id))))) ∧
  (∀ (ts : List Track) (i : Nat), ts.length ≤ 7 → 1 ≤ i → i ≤ 255 → ∃ n, n ≤ 7 ∧ freeId ts 8 i = (i + n - 1) % 255 + 1 ∧
    (∀ t ∈ ts, t.id ≠ freeId ts 8 i) ∧ (∀ m, m < n → ∃ t ∈ ts, t.id = (i + m - 1) % 255 + 1)) ∧
  (∀ (p : Part) (c : Fin 4) (b : Bank) (flags : BitVec 16) (f : Findings) (y : Sky) (discarded : Bool),
    p.sky.pass p.tracker c f.detections = (y, discarded) →
    p.sortingPass c b flags f =
      Part.placeReport (if discarded then Part.raise { p with sky := y } .trackFull else { p with sky := y })
        (buildReport c b flags f y) ∧
    (p.sortingPass c b flags f).sky = y ∧
    ((p.sortingPass c b flags f).status.flags.getLsbD 13 = true ↔
      p.status.flags.getLsbD 13 = true ∨ discarded = true))

/-- A report (R130, R131, R132): its layers are the first five CONFIRMED and COASTING tracks by base, then id, and MORE says that
there are others; while a frame is being sent it joins the REPORT queue, or displaces the oldest of two, carries
REPLACED_BEFORE and raises REPORT_REPLACED; an IDLE scheduler with nothing else to send begins its frame at once (R153). -/
def Obligations.ReportsListTracks : Prop :=
  (∀ (c : Fin 4) (b : Bank) (flags : BitVec 16) (f : Findings) (y : Sky) (r : Report), r = buildReport c b flags f y →
    r.campaign = c ∧ r.sequence = b.sequence ∧ r.lastTick = b.lastTick ∧ r.sky = f.sky ∧ r.vv = f.vv ∧ r.haze = f.haze ∧
    (∃ qs : List Track, qs.Perm (y.tracks.filter fun t => t.state ≠ .tentative) ∧
      qs.Pairwise (fun a b => a.base < b.base ∨ (a.base = b.base ∧ a.id ≤ b.id)) ∧
      r.layers = (qs.take 5).map (fun t => ReportEntry.mk t.id t.state t.cls t.flags t.base t.top t.peak)) ∧
    r.summary = flags ||| (if f.layerLimit then 0x20#16 else 0) ||| (if f.vvLimited then 0x40#16 else 0) |||
      (if 5 < (y.tracks.filter fun t => t.state ≠ .tentative).length then 0x80#16 else 0)) ∧
  (∀ (p : Part) (r : Report) (g : OutFrame), p.link.sending = some g →
    (p.link.reports.length < 2 → p.placeReport r = { p with link := { p.link with reports := p.link.reports ++ [r] } }) ∧
    (∀ a b, p.link.reports = [a, b] → p.placeReport r =
      Part.raise { p with link := { p.link with reports := [b, { r with summary := r.summary ||| 0x100#16 }] } }
        .reportReplaced)) ∧
  (∀ (p : Part) (r : Report), p.link.sending = none → p.link.replies = [] → p.status.pendingSet = 0 → p.link.reports = [] →
    p.placeReport r = { p with link := { p.link with sending := some r.frame } })

/-- The layouts of NOTICE, REPORT and PROFILE frames (R93, R130, R131, R152, R171): KIND, TAG 0, the length of the payload, the fields
of the headers at their offsets, and the fields of the 13-byte entry of a REPORT. -/
def Obligations.OutboundLayouts : Prop :=
  (∀ (a b : BitVec 16) (ps : PartState), (noticeFrame a b ps).kind = 0x82 ∧ (noticeFrame a b ps).tag = 0 ∧
    (noticeFrame a b ps).payload = be 2 a.toNat ++ be 2 b.toNat ++ [if ps = .ready then 1 else 0]) ∧
  (∀ (r : Report) (d : List Byte), d = r.frame.payload → r.frame.kind = 0x83 ∧ r.frame.tag = 0 ∧
    d.length = 17 + 13 * r.layers.length ∧ d[0]? = some (byte r.campaign) ∧ field d 1 2 = r.sequence % 65536 ∧
    field d 3 4 = r.lastTick % 4294967296 ∧ d[7]? = some r.sky.code ∧
    (∀ h, r.vv = some h → d[8]? = some 1 ∧ field d 9 2 = h % 65536) ∧ (r.vv = none → (d.drop 8).take 3 = [0, 0, 0]) ∧
    (∀ h, r.haze = some h → d[11]? = some 1 ∧ field d 12 2 = h % 65536) ∧
    (r.haze = none → (d.drop 11).take 3 = [0, 0, 0]) ∧ field d 14 2 = r.summary.toNat ∧
    d[16]? = some (byte r.layers.length) ∧ d.drop 17 = (r.layers.map ReportEntry.bytes).flatten) ∧
  (∀ (e : ReportEntry) (d : List Byte), d = e.bytes → d.length = 13 ∧ d[0]? = some (byte e.id) ∧
    d[1]? = some (if e.state = .tentative then 0 else if e.state = .confirmed then 1 else 2) ∧
    d[2]? = some (if e.cls = .fog then 1 else 0) ∧
    (∃ m : Byte, d[3]? = some m ∧ m.getLsbD 0 = e.flags.topSeen ∧ m.getLsbD 1 = e.flags.clipped ∧
      m.getLsbD 2 = e.flags.belowRidge ∧ m.toNat < 8) ∧
    field d 4 2 = e.base % 65536 ∧ (∀ h, e.top = some h → d[6]? = some 1 ∧ field d 7 2 = h % 65536) ∧
    (e.top = none → (d.drop 6).take 3 = [0, 0, 0]) ∧ (field d 9 4 : Int) = e.peak % 4294967296) ∧
  (∀ (p : Profile) (d : List Byte), d = p.frame.payload → p.frame.kind = 0x84 ∧ p.frame.tag = 0 ∧
    d.length = 37 + 4 * p.values.length ∧ d[0]? = some (byte p.campaign) ∧ d[1]? = some p.kind.code ∧
    field d 2 2 = p.sequence % 65536 ∧ field d 4 4 = p.firstTick % 4294967296 ∧ field d 8 4 = p.lastTick % 4294967296 ∧
    field d 12 2 = p.accepted % 65536 ∧ field d 14 2 = p.fired % 65536 ∧ field d 16 2 = p.rejected % 65536 ∧
    field d 18 2 = p.clippedShots % 65536 ∧ field d 20 4 = p.esum % 4294967296 ∧
    (∀ e, p.eRef = some e → d[24]? = some 1 ∧ field d 25 2 = e % 65536) ∧
    (p.eRef = none → (d.drop 24).take 3 = [0, 0, 0]) ∧ d[27]? = some (byte p.generation) ∧ field d 28 2 = p.nb % 65536 ∧
    field d 30 2 = p.flags.toNat ∧ d[32]? = some (byte p.skipped) ∧
    (∀ k q, p.darkSource = some (k, q) → d[33]? = some 1 ∧ d[34]? = some (byte k) ∧ field d 35 2 = q % 65536) ∧
    (p.darkSource = none → (d.drop 33).take 4 = [0, 0, 0, 0]) ∧
    (∀ i v, p.values[i]? = some v → (field d (37 + 4 * i) 4 : Int) = v % 4294967296))

/-! ### Invariants that every step keeps -/

/-- The rotating list stays an ordering of the four campaigns (R29). -/
def Obligations.RotatingListKept : Prop :=
  ∀ s t : State, s.arb.ordered → step s = .next t → t.arb.ordered

/-- Banks, campaigns, the profile queue and the bank in hand stay in agreement (R24, R73, R74). -/
def Obligations.BanksAgreeKept : Prop :=
  ∀ s t : State, s.toPart.banksAgree → step s = .next t → t.toPart.banksAgree

/-- Counts, shots and banks stay in agreement (R9, R20, R27, R32, R33, R40, R43, R45, R55, R67, R78, R165): an ACTIVE bank holds
exactly the records that remaining lacks of shots, a closed bank holds a record, the shot in flight agrees with its timer,
charge, lock and bank, and no campaign runs in LOADING. -/
def Obligations.CountsAgreeKept : Prop :=
  ∀ s t : State, s.toPart.countsAgree → step s = .next t → t.toPart.countsAgree

/-- Every table keeps the ranges of its rule (R2, R18, R21, R58, R59, R63, R84, R97, R99, R120), loads, bursts and deferred loads
included. -/
def Obligations.TablesStayInRange : Prop :=
  ∀ s t : State, s.toPart.tablesInRange → step s = .next t → t.toPart.tablesInRange

/-- The track table keeps its form (R119, R124, R125, R126): at most eight tracks, distinct ids in 1..255, misses only in COASTING
tracks. -/
def Obligations.TrackTableKept : Prop :=
  ∀ s t : State, s.sky.fits → step s = .next t → t.sky.fits

/-- The station link keeps its capacities (R92, R132, R144, R145, R147, R152, R153): queues within their bounds, room for the reply of a
held command, no command waiting at a free unit, no source waiting at an IDLE scheduler. -/
def Obligations.LinkKept : Prop :=
  ∀ s t : State, s.toPart.linkFits → step s = .next t → t.toPart.linkFits

/-- The store's cells (R161, R163, R164; the sparse form is the model's, log 8): every step keeps the canonical form; programming ANDs
each byte sent into its own byte; erasing sets the sector to 0xFF; an operation cut off leaves each of its bytes old or new
(log 10); every other byte stays. -/
def Obligations.StoreBytesAndForm : Prop :=
  (∀ s t : State, Memory.wf s.store.cells = true → step s = .next t → Memory.wf t.store.cells = true) ∧
  (∀ (m : List Host.Cell) (addr a n : Nat) (data : List Byte), Memory.wf m = true →
    (∀ j d, data[j]? = some d → a = addr + j →
      cellAt (programCells m addr data) a = cellAt m a &&& d ∧
      (cellAt (cutProgramCells m n addr data) a = cellAt m a ∨ cellAt (cutProgramCells m n addr data) a = cellAt m a &&& d)) ∧
    (a < addr ∨ addr + data.length ≤ a →
      cellAt (programCells m addr data) a = cellAt m a ∧ cellAt (cutProgramCells m n addr data) a = cellAt m a) ∧
    (addr ≤ a → a < addr + 4096 →
      cellAt (eraseCells m addr) a = 0xFF ∧
      (cellAt (cutEraseCells m n addr) a = cellAt m a ∨ cellAt (cutEraseCells m n addr) a = 0xFF)) ∧
    (a < addr ∨ addr + 4096 ≤ a →
      cellAt (eraseCells m addr) a = cellAt m a ∧ cellAt (cutEraseCells m n addr) a = cellAt m a))

/-! ### The station link -/

/-- Characters, frames and their CRC (R138, R140, R141, R143, R152). A byte is a start bit at space, its bits least significant
first and a stop bit at mark. After any rest at mark a start bit, eight data bits and a stop bit give that byte, or a framing error
with the stop bit at space; a wire held at space gives one framing error for every ten bit times. The nine characters 1 to 9 give
0x29B1; any bytes followed by their CRC leave the register at 0; and any frame that fits, taken in HUNT as its bytes or as its
levels on the wire, brings the receiver back to HUNT with exactly that frame. The levels are as sampled (log 14). -/
def Obligations.FrameRoundTrip : Prop :=
  crcOf [0x31, 0x32, 0x33, 0x34, 0x35, 0x36, 0x37, 0x38, 0x39] = 0x29B1#16 ∧
  (∀ bs : List Byte, crcOf (bs ++ be 2 (crcOf bs).toNat) = 0) ∧
  (∀ (p : Part) (f : OutFrame), p.link.rx = .hunt → f.payload.length ≤ 2098 →
    (f.bytes.map LineByte.good).foldl Part.takeByte p =
      p.acceptFrame { kind := f.kind, tag := f.tag, payload := f.payload }) ∧
  (∀ b : Byte, characterBits b = [false, b.getLsbD 0, b.getLsbD 1, b.getLsbD 2, b.getLsbD 3, b.getLsbD 4, b.getLsbD 5,
    b.getLsbD 6, b.getLsbD 7, true]) ∧
  (∀ (n : Nat) (b : Byte) (bits rest : List Bool) (stop : Bool), bits.length = 8 → (∀ i < 8, bits[i]? = some (b.getLsbD i)) →
    receiveFrom .idle (List.replicate n true ++ false :: (bits ++ stop :: rest)) =
      (if stop = true then LineByte.good b else .framingError) :: receiveFrom .idle rest) ∧
  (∀ n : Nat, receiveFrom .idle (List.replicate (10 * n) false) = List.replicate n .framingError) ∧
  (∀ (p : Part) (f : OutFrame) (n : Nat), p.link.rx = .hunt → f.payload.length ≤ 2098 →
    p.takeLevels (List.replicate n true ++ f.levels) =
      p.acceptFrame { kind := f.kind, tag := f.tag, payload := f.payload })

/-- The receiver (R139, R141, R142, R143): the effect of each byte, of a gap and of the end of the wait in each of its states; an
abandoned frame sets the record and raises LINK_ERROR. Where no gap or wait is timed these events change nothing (log 2). -/
def Obligations.ReceiverStates : Prop :=
  ∀ (s : State) (v : Byte) (goes : LinkRx → State) (abandons : LinkError → State),
    (∀ rx, goes rx = { s with link := { s.link with rx := rx } }) →
    (∀ e, abandons e = { s with
      toPart := Part.raise { s.toPart with link := { s.link with rx := .hunt, lastError := some e } } .linkError }) →
    (s.link.rx = .startWait →
      exec (.byteEvent (.good v)) s = .next s ∧ exec (.byteEvent .framingError) s = .next s ∧
      exec .gapTimeout s = .next s ∧ exec .startWaitEnd s = .next (goes .hunt)) ∧
    (s.link.rx ≠ .startWait → exec .startWaitEnd s = .next s) ∧
    (s.link.rx = .hunt →
      exec (.byteEvent (.good v)) s = .next (if v = 0xC5 then goes (.length none 0xFFFF) else s) ∧
      exec (.byteEvent .framingError) s = .next s ∧ exec .gapTimeout s = .next s) ∧
    (s.link.rx ≠ .startWait → s.link.rx ≠ .hunt →
      exec (.byteEvent .framingError) s = .next (abandons .framing) ∧ exec .gapTimeout s = .next (abandons .gap)) ∧
    (∀ crc, s.link.rx = .length none crc →
      exec (.byteEvent (.good v)) s = .next (goes (.length (some v) (crcByte crc v)))) ∧
    (∀ h crc len, s.link.rx = .length (some h) crc → len = h.toNat * 256 + v.toNat →
      (2 ≤ len → len ≤ 2100 → exec (.byteEvent (.good v)) s = .next (goes (.body len [] (crcByte crc v)))) ∧
      (len < 2 ∨ 2100 < len → exec (.byteEvent (.good v)) s = .next (abandons .length))) ∧
    (∀ len got crc, s.link.rx = .body len got crc →
      (got.length + 1 < len → exec (.byteEvent (.good v)) s = .next (goes (.body len (got ++ [v]) (crcByte crc v)))) ∧
      (len ≤ got.length + 1 → exec (.byteEvent (.good v)) s = .next (goes (.check (got ++ [v]) none (crcByte crc v))))) ∧
    (∀ got crc, s.link.rx = .check got none crc →
      exec (.byteEvent (.good v)) s = .next (goes (.check got (some v) crc))) ∧
    (∀ got h crc, s.link.rx = .check got (some h) crc → h.toNat * 256 + v.toNat ≠ crc.toNat →
      exec (.byteEvent (.good v)) s = .next (abandons .crc)) ∧
    (∀ (kind tag h : Byte) (payload : List Byte) (crc : Word16), s.link.rx = .check (kind :: tag :: payload) (some h) crc →
      h.toNat * 256 + v.toNat = crc.toNat →
      (kind = 0x81 ∨ kind = 0x82 ∨ kind = 0x83 ∨ kind = 0x84 →
        exec (.byteEvent (.good v)) s = .next (abandons .outboundKind)) ∧
      (∀ q : Part, ¬(kind = 0x81 ∨ kind = 0x82 ∨ kind = 0x83 ∨ kind = 0x84) →
        q = { s.toPart with link := { s.link with rx := .hunt } } →
        exec (.byteEvent (.good v)) s =
          .next { s with toPart := q.enqueue { kind := kind, tag := tag, payload := payload } }))

/-- Queueing, taking and refusing (R143, R144, R145, R146, R172), for every command row: a full queue drops it with CMD_DROPPED; a unit
that holds a command or lacks room for a reply leaves it waiting; otherwise it is taken at once, and an unknown KIND, a command
outside the LOADING list in LOADING, or a wrong fixed length is refused in that order. The unit takes commands one by one from
the head as long as it may. An outbound KIND is a link error. That a command row stands for its whole frame, received with a
matching CRC, is the model's choice (log 1). -/
def Obligations.CommandsQueuedOrRefused : Prop :=
  (∀ (i : Instr) (c : Command) (s : State), commandOfRow i = some c →
    (c.kind = 0x81 ∨ c.kind = 0x82 ∨ c.kind = 0x83 ∨ c.kind = 0x84 → exec i s = .next { s with
      toPart := Part.raise { s.toPart with link := { s.link with lastError := some .outboundKind } } .linkError }) ∧
    (¬(c.kind = 0x81 ∨ c.kind = 0x82 ∨ c.kind = 0x83 ∨ c.kind = 0x84) →
      (8 ≤ s.link.commands.length → exec i s = .next { s with toPart := s.toPart.raise .cmdDropped }) ∧
      (s.link.commands.length < 8 → (s.link.held ≠ none ∨ 4 ≤ s.link.replies.length) →
        exec i s = .next { s with link := { s.link with commands := s.link.commands ++ [c] } }) ∧
      (s.takesAtOnce = true →
        (c.kind.toNat = 0 ∨ 0x16 < c.kind.toNat → exec i s = answered s s.toPart c .badKind []) ∧
        (1 ≤ c.kind.toNat → c.kind.toNat ≤ 0x16 → s.boot ≠ .ready →
          c.kind.toNat ∉ [0x01, 0x02, 0x03, 0x04, 0x07, 0x0C, 0x10, 0x12] → exec i s = answered s s.toPart c .notReady []) ∧
        (∀ n, s.boot = .ready ∨ c.kind.toNat ∈ [0x01, 0x02, 0x03, 0x04, 0x07, 0x0C, 0x10, 0x12] →
          (c.kind.toNat, n) ∈ [(0x02, 0), (0x03, 2), (0x04, 3), (0x05, 0), (0x07, 5), (0x08, 1), (0x09, 1), (0x0A, 1),
            (0x0B, 1), (0x0C, 1), (0x0D, 0), (0x0E, 0), (0x0F, 0), (0x10, 0), (0x11, 0), (0x12, 0), (0x13, 4), (0x15, 2),
            (0x16, 0)] →
          c.payload.length ≠ n → exec i s = answered s s.toPart c .badParam [])))) ∧
  (∀ p : Part, (p.link.commands = [] ∨ p.link.held ≠ none ∨ 4 ≤ p.link.replies.length → p.takeCommands = p) ∧
    (∀ c rest, p.link.commands = c :: rest → p.link.held = none → p.link.replies.length < 4 →
      p.takeCommands = (Part.perform { p with link := { p.link with commands := rest } } c).takeCommands))

/-- One reply for each command (R148, R154): a command that a free unit takes, at once from its row (a whole frame, log 1) or later
from the queue, is answered behind the replies already out, or is held and not yet answered; nothing but DEVICE_RESET discards
or reorders a reply, and END_OF_FRAME completes only the oldest. -/
def Obligations.OneReplyPerCommand : Prop :=
  (∀ (i : Instr) (c : Command) (s : State), commandOfRow i = some c →
    ¬(c.kind = 0x81 ∨ c.kind = 0x82 ∨ c.kind = 0x83 ∨ c.kind = 0x84) → s.takesAtOnce = true → ∃ t : State,
    exec i s = .next t ∧
    ((t.link.held = none ∧ t.link.repliesOut = s.link.repliesOut ++ [(c.tag, c.kind)]) ∨
      (t.link.held ≠ none ∧ t.link.repliesOut = s.link.repliesOut))) ∧
  (∀ (p t : Part) (c : Command), p.link.held = none → p.link.replies.length < 4 → t = p.perform c →
    (t.link.held = none ∧ t.link.repliesOut = p.link.repliesOut ++ [(c.tag, c.kind)]) ∨
      (t.link.held ≠ none ∧ t.link.repliesOut = p.link.repliesOut)) ∧
  (∀ (i : Instr) (s t : State), (∀ straps head lock, i ≠ .deviceReset straps head lock) → i ≠ .endOfFrame →
    exec i s = .next t → ∃ more, t.link.repliesOut = s.link.repliesOut ++ more) ∧
  (∀ s t : State, exec .endOfFrame s = .next t →
    (∀ f, s.link.sending = some f → f.kind = 0x81 → ∃ more, t.link.repliesOut = s.link.repliesOut.tail ++ more) ∧
    ((∀ f, s.link.sending = some f → f.kind ≠ 0x81) → ∃ more, t.link.repliesOut = s.link.repliesOut ++ more))

/-- END_OF_FRAME (R92, R145, R152, R153, R154, R156): the end of a PROFILE frame empties the slot; the next frame comes from the first
non-empty source, REPLY queue, pending notice, REPORT queue, slot; then the Command Unit takes what it may. With no frame being
sent nothing changes (log 2). -/
def Obligations.EndOfFramePrecedence : Prop :=
  ∀ s : State,
    (s.link.sending = none → exec .endOfFrame s = .next s) ∧
    (∀ (f : OutFrame) (q t : Part), s.link.sending = some f →
      q = { s.toPart with
        engine := { s.engine with slot := if f.kind = 0x84 then .empty else s.engine.slot }
        link := { s.link with sending := none } } →
      ((∃ r rest, s.link.replies = r :: rest ∧
          t = { q with link := { q.link with
            replies := rest, sending := some (OutFrame.mk 0x81 r.tag (r.kind :: r.code.code :: r.data)) } }) ∨
        (s.link.replies = [] ∧ s.status.pendingSet ≠ 0 ∧
          t = { q with
            status := { s.status with pendingSet := 0 }
            link := { q.link with sending := some (noticeFrame s.status.pendingSet s.status.flags s.partState) } }) ∨
        (s.link.replies = [] ∧ s.status.pendingSet = 0 ∧ ∃ r rest, s.link.reports = r :: rest ∧
          t = { q with link := { q.link with reports := rest, sending := some r.frame } }) ∨
        (s.link.replies = [] ∧ s.status.pendingSet = 0 ∧ s.link.reports = [] ∧ ∃ pr, q.engine.slot = .waiting pr ∧
          t = { q with link := { q.link with sending := some pr.frame }, engine := { q.engine with slot := .sending } }) ∨
        (s.link.replies = [] ∧ s.status.pendingSet = 0 ∧ s.link.reports = [] ∧ (∀ pr, q.engine.slot ≠ .waiting pr) ∧
          t = q)) →
      exec .endOfFrame s = .next { s with toPart := t.takeCommands })

/-! ### The table store and the loader -/

/-- STORE_READ, STORE_WRITE and STORE_ERASE in READY (R147, R161 to R164): each refusal in its order, and the command held when its checks
pass, with nothing sent to the store for a refused one. What the controller then runs: a data read alone for a read; polls of the
status, the write enable, the program or erase, and polls again for the other two; when the limit passes in a step, no later
step. The model's own readings: one status read stands for the polls of a step, however many there are (log 28, DESIGN CHOICE),
and the controller's operation is read off the held command (log 17, DESIGN CHOICE). -/
def Obligations.StoreCommandsHeld : Prop :=
  (∀ (tag : Byte) (addr count : Nat) (s : State), s.takesAtOnce = true → s.boot = .ready → addr < 65536 → count < 65536 →
    (∀ c : Command, c = { kind := 0x13, tag := tag, payload := be 2 addr ++ be 2 count } →
      (count = 0 ∨ 256 < count → exec (.storeRead tag c.payload) s = answered s s.toPart c .badParam []) ∧
      (1 ≤ count → count ≤ 256 → 65536 < addr + count →
        exec (.storeRead tag c.payload) s = answered s s.toPart c .storeRange []) ∧
      (1 ≤ count → count ≤ 256 → addr + count ≤ 65536 →
        exec (.storeRead tag c.payload) s = .next { s with link := { s.link with held := some (.storeRead tag addr count) } })) ∧
    (∀ pl : List Byte, pl.length < 3 ∨ 258 < pl.length →
      exec (.storeWrite tag pl) s = answered s s.toPart { kind := 0x14, tag := tag, payload := pl } .badParam []) ∧
    (∀ (data : List Byte) (c : Command), c = { kind := 0x14, tag := tag, payload := be 2 addr ++ data } →
      1 ≤ data.length → data.length ≤ 256 →
      (256 < addr % 256 + data.length → exec (.storeWrite tag c.payload) s = answered s s.toPart c .storeRange []) ∧
      (addr % 256 + data.length ≤ 256 → exec (.storeWrite tag c.payload) s =
        .next { s with link := { s.link with held := some (.storeWrite tag addr data) } })) ∧
    (∀ c : Command, c = { kind := 0x15, tag := tag, payload := be 2 addr } →
      (addr % 4096 ≠ 0 → exec (.storeErase tag c.payload) s = answered s s.toPart c .storeRange []) ∧
      (addr % 4096 = 0 → exec (.storeErase tag c.payload) s =
        .next { s with link := { s.link with held := some (.storeErase tag addr) } }))) ∧
  (∀ (p : Part) (tag : Byte) (addr count : Nat) (data : List Byte), p.boot = .ready →
    (p.link.held = none → p.storeOperation = .idle) ∧
    (p.link.held = some (.storeRead tag addr count) → p.storeOperation = .read) ∧
    (p.link.held = some (.storeWrite tag addr data) → p.storeOperation = .write) ∧
    (p.link.held = some (.storeErase tag addr) → p.storeOperation = .erase) ∧
    (Held.storeRead tag addr count).transactions = [.dataRead addr count] ∧
    (Held.storeWrite tag addr data).transactions = [.statusRead, .writeEnable, .pageProgram addr data, .statusRead] ∧
    (Held.storeErase tag addr).transactions = [.statusRead, .writeEnable, .sectorErase addr, .statusRead]) ∧
  (∀ t : Transaction, sentAtTimeout t .busyWait = [.statusRead] ∧ sentAtTimeout t .writeEnable = [.statusRead, .writeEnable] ∧
    sentAtTimeout t .program = [.statusRead, .writeEnable, t] ∧ sentAtTimeout t .completion = fourSteps t)

/-- The store transactions and the ends of the store operations (R161, R162, R163, R164). What the controller sends, a command byte
and an address high byte first, and what it receives: 0xFF from a missing store, 0x00 from a shorted line, else the busy state, the
identification and the bytes. Then the reply, the store's bytes and whether it is busy, and the release of the Command Unit,
which takes what it may. Free values: the bytes and the identification of a busy store (logs 9 and 12), the other bits of the
status (log 28). An operation that timed out after its program step leaves old or new bytes (log 10), and a missing store never
completes (log 11). -/
def Obligations.StoreOperationsEnd : Prop :=
  (∀ (addr count : Nat) (data : List Byte),
    Transaction.identification.sends = [0x9F] ∧ Transaction.statusRead.sends = [0x05] ∧
    (Transaction.dataRead addr count).sends = [0x03, byte (addr / 256), byte addr] ∧
    Transaction.writeEnable.sends = [0x06] ∧
    (Transaction.pageProgram addr data).sends = [0x02, byte (addr / 256), byte addr] ++ data ∧
    (Transaction.sectorErase addr).sends = [0x20, byte (addr / 256), byte addr]) ∧
  (∀ (st : Store) (n : Nat),
    (∀ t, (st.reply n t).length = t.receives) ∧
    (st.ident = 0xFFFFFF → ∀ t, st.reply n t = List.replicate t.receives 0xFF) ∧
    (st.ident = 0 → ∀ t, st.reply n t = List.replicate t.receives 0x00) ∧
    (st.ident ≠ 0xFFFFFF → st.ident ≠ 0 →
      (∃ v : Byte, st.reply n .statusRead = [v] ∧ v.getLsbD 0 = st.busy) ∧
      ofBe (st.reply n .identification) = (if st.busy then Config.busyIdent n else st.ident).toNat)) ∧
  (∀ (s : State) (q : Part) (ends : Part → Host.Outcome State Fault Refusal),
    q = { s.toPart with link := { s.link with held := none } } → (∀ t, ends t = .next { s with toPart := t.takeCommands }) →
    (∀ tag addr count bytes, s.link.held = some (.storeRead tag addr count) →
      bytes = (List.range count).map (fun j =>
        if s.store.ident = 0xFFFFFF then 0xFF else if s.store.ident = 0 then 0x00
        else if s.store.busy then Config.busyStoreByte (s.free + j) else cellAt s.store.cells (addr + j)) →
      exec .storeReadComplete s = ends (Part.answer { q with free := s.free + count }
        { kind := 0x13, tag := tag, payload := [] } .ok (be 2 addr ++ be 2 count ++ bytes))) ∧
    (∀ tag addr data, s.link.held = some (.storeWrite tag addr data) →
      (s.store.ident ≠ 0xFFFFFF → s.store.ident ≠ 0 → exec .storeWriteComplete s = ends
        (Part.answer { q with store := { s.store with busy := false, cells := programCells s.store.cells addr data } }
          { kind := 0x14, tag := tag, payload := [] } .ok (be 2 addr ++ be 2 data.length))) ∧
      (s.store.ident = 0xFFFFFF → s.link.commands = [] → exec .storeWriteComplete s = .next s) ∧
      (∀ (phase : StorePhase) (st : Store),
        st = (if s.store.ident = 0xFFFFFF ∨ s.store.ident = 0 then s.store else match phase with
          | .busyWait => { s.store with busy := true }
          | .writeEnable => { s.store with busy := false }
          | .program | .completion => { s.store with busy := true, cells := cutProgramCells s.store.cells s.free addr data }) →
        exec (.storeWriteTimeout phase) s = ends (Part.answer { q with store := st, free := s.free + data.length }
          { kind := 0x14, tag := tag, payload := [] } .storeTimeout []))) ∧
    (∀ tag addr, s.link.held = some (.storeErase tag addr) →
      (s.store.ident ≠ 0xFFFFFF → s.store.ident ≠ 0 → exec .storeEraseComplete s = ends
        (Part.answer { q with store := { s.store with busy := false, cells := eraseCells s.store.cells addr } }
          { kind := 0x15, tag := tag, payload := [] } .ok (be 2 addr))) ∧
      (∀ (phase : StorePhase) (st : Store),
        st = (if s.store.ident = 0xFFFFFF ∨ s.store.ident = 0 then s.store else match phase with
          | .busyWait => { s.store with busy := true }
          | .writeEnable => { s.store with busy := false }
          | .program | .completion => { s.store with busy := true, cells := cutEraseCells s.store.cells s.free addr }) →
        exec (.storeEraseTimeout phase) s = ends (Part.answer { q with store := st, free := s.free + 4096 }
          { kind := 0x15, tag := tag, payload := [] } .storeTimeout []))))

/-- What the loader finds (R166, R167, R168): a store that does not answer ends the run ABSENT, whether or not the busy wait timed
out; one that answers is read, to the end of the run with its record, or to the next sound burst. The bytes of a store that is
still busy after the wait are free values (log 9), and so is what it answers to the identification read, so that its run may go
either way (log 12). -/
def Obligations.LoaderReadsImage : Prop :=
  (∀ p : Part, p.loaderNext .timedOut = p.loaderNext .busyWait) ∧
  (∀ p : Part, p.store.ident = 0 ∨ p.store.ident = 0xFFFFFF → p.loaderNext .timedOut =
    .finish { result := .fault, reason := some .absent, applied := 0, faultAddr := none }) ∧
  (∀ (p : Part) (at_ : Nat → Byte) (id : BitVec 24) (fault : LoaderReason → Nat → Nat → LoaderNext),
    p.store.ident ≠ 0xFFFFFF → p.store.ident ≠ 0 →
    (∀ a, at_ a = if p.store.busy then Config.busyStoreByte (p.free + a) else cellAt p.store.cells a) →
    id = (if p.store.busy then Config.busyIdent p.free else p.store.ident) →
    (∀ reason applied addr, fault reason applied addr =
      .finish { result := .fault, reason := some reason, applied := applied, faultAddr := some addr }) →
    p.loaderNext .busyWait =
      (if id = 0 ∨ id = 0xFFFFFF then .finish { result := .fault, reason := some .absent, applied := 0, faultAddr := none }
       else if at_ 0 ≠ 0x5A then .finish { result := .empty, reason := none, applied := 0, faultAddr := none }
       else if at_ 1 ≠ 1 then fault .format 0 1
       else p.loaderNext (.bursts 3 (at_ 2).toNat 0)) ∧
    (∀ addr applied,
      (65536 ≤ addr → p.loaderNext (.bursts addr 0 applied) = fault .overflow applied 65535) ∧
      (addr < 65536 → at_ addr = 0xA5 → p.loaderNext (.bursts addr 0 applied) =
        .finish { result := .ok, reason := none, applied := applied, faultAddr := none }) ∧
      (addr < 65536 → at_ addr ≠ 0xA5 → p.loaderNext (.bursts addr 0 applied) = fault .endMarker applied addr)) ∧
    (∀ addr left applied start count, start = (at_ (addr + 1)).toNat * 256 + (at_ (addr + 2)).toNat →
      count = (at_ (addr + 3)).toNat * 256 + (at_ (addr + 4)).toNat →
      (65536 < addr + 5 → p.loaderNext (.bursts addr (left + 1) applied) = fault .overflow applied 65535) ∧
      (addr + 5 ≤ 65536 → tableOf (at_ addr).toNat = none ∨ count = 0 →
        p.loaderNext (.bursts addr (left + 1) applied) = fault .burst applied addr) ∧
      (∀ t, addr + 5 ≤ 65536 → tableOf (at_ addr).toNat = some t → count ≠ 0 →
        (tableEntries t < start + count → p.loaderNext (.bursts addr (left + 1) applied) = fault .burst applied addr) ∧
        (start + count ≤ tableEntries t → 65536 < addr + 5 + count * tableSize t →
          p.loaderNext (.bursts addr (left + 1) applied) = fault .overflow applied 65535) ∧
        (∀ es : List (List Byte), start + count ≤ tableEntries t → addr + 5 + count * tableSize t ≤ 65536 →
          es = (List.range count).map (fun j =>
            (List.range (tableSize t)).map fun i => at_ (addr + 5 + j * tableSize t + i)) →
          ((∃ e ∈ es, entryOk t e = false) →
            p.loaderNext (.bursts addr (left + 1) applied) = fault .burst applied addr) ∧
          ((∀ e ∈ es, entryOk t e = true) → p.loaderNext (.bursts addr (left + 1) applied) =
            .burst t start es (addr + 5 + count * tableSize t) left (applied + 1))))))

/-- The events of a loader run (R166 to R170) and STORE_RELOAD (R169): the busy wait that times out; a burst applied as an accepted load;
the end of the run, with its record and flag, then READY after a reload, or the head step and autostart after device reset. The
model's own readings: the wait ends with a store not busy, and a missing store does not end it (log 11); after a timed-out wait
the store counts as busy (log 12); the rows act only where the image calls for them (log 15) and change nothing outside a run
(log 2); the notice of loader end is built before READY (log 5, DEDUCED, unsafe); the head step ends at once in every state but
UNVERIFIED (log 24). -/
def Obligations.LoaderEvents : Prop :=
  (∀ s : State,
    (s.boot = .starting .busyWait → exec .loaderBusyTimeout s =
      .next { s with boot := .starting .timedOut, store := { s.store with busy := true } }) ∧
    (s.boot = .reloading .busyWait → exec .loaderBusyTimeout s =
      .next { s with boot := .reloading .timedOut, store := { s.store with busy := true } }) ∧
    (s.boot = .headStep ∨ s.boot = .ready → exec .loaderBusyTimeout s = .next s ∧ exec .burstApply s = .next s ∧
      exec .loaderEnd s = .next s)) ∧
  (∀ s : State, s.boot = .starting .busyWait ∨ s.boot = .reloading .busyWait → s.store.ident = 0xFFFFFF →
    exec .burstApply s = .next s ∧ exec .loaderEnd s = .next s) ∧
  (∀ (s : State) (st : LoaderStage) (p : Part), s.boot = .starting st ∨ s.boot = .reloading st →
    (st = .busyWait → s.store.ident ≠ 0xFFFFFF) →
    p = { s.toPart with store := if st = .busyWait then { s.store with busy := false } else s.store } →
    (∀ (t : TableId) (start : Nat) (es : List (List Byte)) (next left applied : Nat),
      p.loaderNext st = .burst t start es next left applied → exec .loaderEnd s = .next s ∧
      (s.boot = .starting st → exec .burstApply s = .next { s with
        toPart := Part.writeEntries { p with boot := .starting (.bursts next left applied) } t start es }) ∧
      (s.boot = .reloading st → exec .burstApply s = .next { s with
        toPart := Part.writeEntries { p with boot := .reloading (.bursts next left applied) } t start es })) ∧
    (∀ (r : LoaderRecord) (q : Part), p.loaderNext st = .finish r →
      q = Part.raise { p with loaded := r, free := s.free + 65536 }
        (if r.result = .fault then .loaderFault else .loaderDone) →
      exec .burstApply s = .next s ∧
      (s.boot = .reloading st → exec .loaderEnd s = .next { s with toPart := { q with boot := .ready } }) ∧
      (s.boot = .starting st → s.head = .unverified → exec .loaderEnd s =
        .next { s with toPart := { q with boot := .headStep, head := .measuring } }) ∧
      (s.boot = .starting st → s.head ≠ .unverified → exec .loaderEnd s =
        .next { s with toPart := Part.autostart { q with boot := .ready } }))) ∧
  (∀ (tag : Byte) (s : State) (c : Command), s.takesAtOnce = true → s.boot = .ready →
    c = { kind := 0x16, tag := tag, payload := [] } →
    ((∃ k : Fin 4, s.runs[k].state ≠ .idle) ∨ (∃ b : Fin 8, s.banks[b].state ≠ .free) →
      exec (.storeReload tag []) s = answered s s.toPart c .busy []) ∧
    ((∀ k : Fin 4, s.runs[k].state = .idle) → (∀ b : Fin 8, s.banks[b].state = .free) →
      exec (.storeReload tag []) s =
        .next { s with toPart := { s.toPart.answer c .ok [] with boot := .reloading .busyWait } }))
end

