-- ==== Sys2Proof/Laws/State.lean ====
section
/-! SUPPORT. One lemma per field of Part for each named update of it: the field it writes, and every field it keeps. -/

namespace Sys2Proof.Machine

variable (p : Part)

/-! ### setBank -/

@[simp] theorem Part.setBank_cadence (b : Fin 8) (x : Bank) : (p.setBank b x).cadence = p.cadence := rfl
@[simp] theorem Part.setBank_gen (b : Fin 8) (x : Bank) : (p.setBank b x).gen = p.gen := rfl
@[simp] theorem Part.setBank_ticks (b : Fin 8) (x : Bank) : (p.setBank b x).ticks = p.ticks := rfl
@[simp] theorem Part.setBank_trig (b : Fin 8) (x : Bank) : (p.setBank b x).trig = p.trig := rfl
@[simp] theorem Part.setBank_fire (b : Fin 8) (x : Bank) : (p.setBank b x).fire = p.fire := rfl
@[simp] theorem Part.setBank_bucket (b : Fin 8) (x : Bank) : (p.setBank b x).bucket = p.bucket := rfl
@[simp] theorem Part.setBank_overEnergy (b : Fin 8) (x : Bank) : (p.setBank b x).overEnergy = p.overEnergy := rfl
@[simp] theorem Part.setBank_stopped (b : Fin 8) (x : Bank) : (p.setBank b x).stopped = p.stopped := rfl
@[simp] theorem Part.setBank_pendingCharge (b : Fin 8) (x : Bank) : (p.setBank b x).pendingCharge = p.pendingCharge := rfl
@[simp] theorem Part.setBank_interlockOpen (b : Fin 8) (x : Bank) : (p.setBank b x).interlockOpen = p.interlockOpen := rfl
@[simp] theorem Part.setBank_head (b : Fin 8) (x : Bank) : (p.setBank b x).head = p.head := rfl
@[simp] theorem Part.setBank_headTable (b : Fin 8) (x : Bank) : (p.setBank b x).headTable = p.headTable := rfl
@[simp] theorem Part.setBank_campTable (b : Fin 8) (x : Bank) : (p.setBank b x).campTable = p.campTable := rfl
@[simp] theorem Part.setBank_runs (b : Fin 8) (x : Bank) : (p.setBank b x).runs = p.runs := rfl
@[simp] theorem Part.setBank_arb (b : Fin 8) (x : Bank) : (p.setBank b x).arb = p.arb := rfl
@[simp] theorem Part.setBank_shot (b : Fin 8) (x : Bank) : (p.setBank b x).shot = p.shot := rfl
@[simp] theorem Part.setBank_port (b : Fin 8) (x : Bank) : (p.setBank b x).port = p.port := rfl
@[simp] theorem Part.setBank_gates (b : Fin 8) (x : Bank) : (p.setBank b x).gates = p.gates := rfl
@[simp] theorem Part.setBank_banks (b : Fin 8) (x : Bank) : (p.setBank b x).banks = p.banks.set b x := rfl
@[simp] theorem Part.setBank_engine (b : Fin 8) (x : Bank) : (p.setBank b x).engine = p.engine := rfl
@[simp] theorem Part.setBank_corr (b : Fin 8) (x : Bank) : (p.setBank b x).corr = p.corr := rfl
@[simp] theorem Part.setBank_thresh (b : Fin 8) (x : Bank) : (p.setBank b x).thresh = p.thresh := rfl
@[simp] theorem Part.setBank_finder (b : Fin 8) (x : Bank) : (p.setBank b x).finder = p.finder := rfl
@[simp] theorem Part.setBank_tracker (b : Fin 8) (x : Bank) : (p.setBank b x).tracker = p.tracker := rfl
@[simp] theorem Part.setBank_sky (b : Fin 8) (x : Bank) : (p.setBank b x).sky = p.sky := rfl
@[simp] theorem Part.setBank_link (b : Fin 8) (x : Bank) : (p.setBank b x).link = p.link := rfl
@[simp] theorem Part.setBank_status (b : Fin 8) (x : Bank) : (p.setBank b x).status = p.status := rfl
@[simp] theorem Part.setBank_boot (b : Fin 8) (x : Bank) : (p.setBank b x).boot = p.boot := rfl
@[simp] theorem Part.setBank_loaded (b : Fin 8) (x : Bank) : (p.setBank b x).loaded = p.loaded := rfl
@[simp] theorem Part.setBank_store (b : Fin 8) (x : Bank) : (p.setBank b x).store = p.store := rfl
@[simp] theorem Part.setBank_free (b : Fin 8) (x : Bank) : (p.setBank b x).free = p.free := rfl

/-! ### setRun -/

@[simp] theorem Part.setRun_cadence (k : Fin 4) (r : Run) : (p.setRun k r).cadence = p.cadence := rfl
@[simp] theorem Part.setRun_gen (k : Fin 4) (r : Run) : (p.setRun k r).gen = p.gen := rfl
@[simp] theorem Part.setRun_ticks (k : Fin 4) (r : Run) : (p.setRun k r).ticks = p.ticks := rfl
@[simp] theorem Part.setRun_trig (k : Fin 4) (r : Run) : (p.setRun k r).trig = p.trig := rfl
@[simp] theorem Part.setRun_fire (k : Fin 4) (r : Run) : (p.setRun k r).fire = p.fire := rfl
@[simp] theorem Part.setRun_bucket (k : Fin 4) (r : Run) : (p.setRun k r).bucket = p.bucket := rfl
@[simp] theorem Part.setRun_overEnergy (k : Fin 4) (r : Run) : (p.setRun k r).overEnergy = p.overEnergy := rfl
@[simp] theorem Part.setRun_stopped (k : Fin 4) (r : Run) : (p.setRun k r).stopped = p.stopped := rfl
@[simp] theorem Part.setRun_pendingCharge (k : Fin 4) (r : Run) : (p.setRun k r).pendingCharge = p.pendingCharge := rfl
@[simp] theorem Part.setRun_interlockOpen (k : Fin 4) (r : Run) : (p.setRun k r).interlockOpen = p.interlockOpen := rfl
@[simp] theorem Part.setRun_head (k : Fin 4) (r : Run) : (p.setRun k r).head = p.head := rfl
@[simp] theorem Part.setRun_headTable (k : Fin 4) (r : Run) : (p.setRun k r).headTable = p.headTable := rfl
@[simp] theorem Part.setRun_campTable (k : Fin 4) (r : Run) : (p.setRun k r).campTable = p.campTable := rfl
@[simp] theorem Part.setRun_runs (k : Fin 4) (r : Run) : (p.setRun k r).runs = p.runs.set k r := rfl
@[simp] theorem Part.setRun_arb (k : Fin 4) (r : Run) : (p.setRun k r).arb = p.arb := rfl
@[simp] theorem Part.setRun_shot (k : Fin 4) (r : Run) : (p.setRun k r).shot = p.shot := rfl
@[simp] theorem Part.setRun_port (k : Fin 4) (r : Run) : (p.setRun k r).port = p.port := rfl
@[simp] theorem Part.setRun_gates (k : Fin 4) (r : Run) : (p.setRun k r).gates = p.gates := rfl
@[simp] theorem Part.setRun_banks (k : Fin 4) (r : Run) : (p.setRun k r).banks = p.banks := rfl
@[simp] theorem Part.setRun_engine (k : Fin 4) (r : Run) : (p.setRun k r).engine = p.engine := rfl
@[simp] theorem Part.setRun_corr (k : Fin 4) (r : Run) : (p.setRun k r).corr = p.corr := rfl
@[simp] theorem Part.setRun_thresh (k : Fin 4) (r : Run) : (p.setRun k r).thresh = p.thresh := rfl
@[simp] theorem Part.setRun_finder (k : Fin 4) (r : Run) : (p.setRun k r).finder = p.finder := rfl
@[simp] theorem Part.setRun_tracker (k : Fin 4) (r : Run) : (p.setRun k r).tracker = p.tracker := rfl
@[simp] theorem Part.setRun_sky (k : Fin 4) (r : Run) : (p.setRun k r).sky = p.sky := rfl
@[simp] theorem Part.setRun_link (k : Fin 4) (r : Run) : (p.setRun k r).link = p.link := rfl
@[simp] theorem Part.setRun_status (k : Fin 4) (r : Run) : (p.setRun k r).status = p.status := rfl
@[simp] theorem Part.setRun_boot (k : Fin 4) (r : Run) : (p.setRun k r).boot = p.boot := rfl
@[simp] theorem Part.setRun_loaded (k : Fin 4) (r : Run) : (p.setRun k r).loaded = p.loaded := rfl
@[simp] theorem Part.setRun_store (k : Fin 4) (r : Run) : (p.setRun k r).store = p.store := rfl
@[simp] theorem Part.setRun_free (k : Fin 4) (r : Run) : (p.setRun k r).free = p.free := rfl

/-! ### setRx -/

@[simp] theorem Part.setRx_cadence (rx : PortRx) : (p.setRx rx).cadence = p.cadence := rfl
@[simp] theorem Part.setRx_gen (rx : PortRx) : (p.setRx rx).gen = p.gen := rfl
@[simp] theorem Part.setRx_ticks (rx : PortRx) : (p.setRx rx).ticks = p.ticks := rfl
@[simp] theorem Part.setRx_trig (rx : PortRx) : (p.setRx rx).trig = p.trig := rfl
@[simp] theorem Part.setRx_fire (rx : PortRx) : (p.setRx rx).fire = p.fire := rfl
@[simp] theorem Part.setRx_bucket (rx : PortRx) : (p.setRx rx).bucket = p.bucket := rfl
@[simp] theorem Part.setRx_overEnergy (rx : PortRx) : (p.setRx rx).overEnergy = p.overEnergy := rfl
@[simp] theorem Part.setRx_stopped (rx : PortRx) : (p.setRx rx).stopped = p.stopped := rfl
@[simp] theorem Part.setRx_pendingCharge (rx : PortRx) : (p.setRx rx).pendingCharge = p.pendingCharge := rfl
@[simp] theorem Part.setRx_interlockOpen (rx : PortRx) : (p.setRx rx).interlockOpen = p.interlockOpen := rfl
@[simp] theorem Part.setRx_head (rx : PortRx) : (p.setRx rx).head = p.head := rfl
@[simp] theorem Part.setRx_headTable (rx : PortRx) : (p.setRx rx).headTable = p.headTable := rfl
@[simp] theorem Part.setRx_campTable (rx : PortRx) : (p.setRx rx).campTable = p.campTable := rfl
@[simp] theorem Part.setRx_runs (rx : PortRx) : (p.setRx rx).runs = p.runs := rfl
@[simp] theorem Part.setRx_arb (rx : PortRx) : (p.setRx rx).arb = p.arb := rfl
@[simp] theorem Part.setRx_shot (rx : PortRx) : (p.setRx rx).shot = p.shot := rfl
@[simp] theorem Part.setRx_port (rx : PortRx) : (p.setRx rx).port = { p.port with rx := rx } := rfl
@[simp] theorem Part.setRx_gates (rx : PortRx) : (p.setRx rx).gates = p.gates := rfl
@[simp] theorem Part.setRx_banks (rx : PortRx) : (p.setRx rx).banks = p.banks := rfl
@[simp] theorem Part.setRx_engine (rx : PortRx) : (p.setRx rx).engine = p.engine := rfl
@[simp] theorem Part.setRx_corr (rx : PortRx) : (p.setRx rx).corr = p.corr := rfl
@[simp] theorem Part.setRx_thresh (rx : PortRx) : (p.setRx rx).thresh = p.thresh := rfl
@[simp] theorem Part.setRx_finder (rx : PortRx) : (p.setRx rx).finder = p.finder := rfl
@[simp] theorem Part.setRx_tracker (rx : PortRx) : (p.setRx rx).tracker = p.tracker := rfl
@[simp] theorem Part.setRx_sky (rx : PortRx) : (p.setRx rx).sky = p.sky := rfl
@[simp] theorem Part.setRx_link (rx : PortRx) : (p.setRx rx).link = p.link := rfl
@[simp] theorem Part.setRx_status (rx : PortRx) : (p.setRx rx).status = p.status := rfl
@[simp] theorem Part.setRx_boot (rx : PortRx) : (p.setRx rx).boot = p.boot := rfl
@[simp] theorem Part.setRx_loaded (rx : PortRx) : (p.setRx rx).loaded = p.loaded := rfl
@[simp] theorem Part.setRx_store (rx : PortRx) : (p.setRx rx).store = p.store := rfl
@[simp] theorem Part.setRx_free (rx : PortRx) : (p.setRx rx).free = p.free := rfl

/-! ### setLock -/

@[simp] theorem Part.setLock_cadence (l : Lock) : (p.setLock l).cadence = p.cadence := rfl
@[simp] theorem Part.setLock_gen (l : Lock) : (p.setLock l).gen = p.gen := rfl
@[simp] theorem Part.setLock_ticks (l : Lock) : (p.setLock l).ticks = p.ticks := rfl
@[simp] theorem Part.setLock_trig (l : Lock) : (p.setLock l).trig = p.trig := rfl
@[simp] theorem Part.setLock_fire (l : Lock) : (p.setLock l).fire = p.fire := rfl
@[simp] theorem Part.setLock_bucket (l : Lock) : (p.setLock l).bucket = p.bucket := rfl
@[simp] theorem Part.setLock_overEnergy (l : Lock) : (p.setLock l).overEnergy = p.overEnergy := rfl
@[simp] theorem Part.setLock_stopped (l : Lock) : (p.setLock l).stopped = p.stopped := rfl
@[simp] theorem Part.setLock_pendingCharge (l : Lock) : (p.setLock l).pendingCharge = p.pendingCharge := rfl
@[simp] theorem Part.setLock_interlockOpen (l : Lock) : (p.setLock l).interlockOpen = p.interlockOpen := rfl
@[simp] theorem Part.setLock_head (l : Lock) : (p.setLock l).head = p.head := rfl
@[simp] theorem Part.setLock_headTable (l : Lock) : (p.setLock l).headTable = p.headTable := rfl
@[simp] theorem Part.setLock_campTable (l : Lock) : (p.setLock l).campTable = p.campTable := rfl
@[simp] theorem Part.setLock_runs (l : Lock) : (p.setLock l).runs = p.runs := rfl
@[simp] theorem Part.setLock_arb (l : Lock) : (p.setLock l).arb = p.arb := rfl
@[simp] theorem Part.setLock_shot (l : Lock) : (p.setLock l).shot = p.shot := rfl
@[simp] theorem Part.setLock_port (l : Lock) : (p.setLock l).port = { p.port with lock := l } := rfl
@[simp] theorem Part.setLock_gates (l : Lock) : (p.setLock l).gates = p.gates := rfl
@[simp] theorem Part.setLock_banks (l : Lock) : (p.setLock l).banks = p.banks := rfl
@[simp] theorem Part.setLock_engine (l : Lock) : (p.setLock l).engine = p.engine := rfl
@[simp] theorem Part.setLock_corr (l : Lock) : (p.setLock l).corr = p.corr := rfl
@[simp] theorem Part.setLock_thresh (l : Lock) : (p.setLock l).thresh = p.thresh := rfl
@[simp] theorem Part.setLock_finder (l : Lock) : (p.setLock l).finder = p.finder := rfl
@[simp] theorem Part.setLock_tracker (l : Lock) : (p.setLock l).tracker = p.tracker := rfl
@[simp] theorem Part.setLock_sky (l : Lock) : (p.setLock l).sky = p.sky := rfl
@[simp] theorem Part.setLock_link (l : Lock) : (p.setLock l).link = p.link := rfl
@[simp] theorem Part.setLock_status (l : Lock) : (p.setLock l).status = p.status := rfl
@[simp] theorem Part.setLock_boot (l : Lock) : (p.setLock l).boot = p.boot := rfl
@[simp] theorem Part.setLock_loaded (l : Lock) : (p.setLock l).loaded = p.loaded := rfl
@[simp] theorem Part.setLock_store (l : Lock) : (p.setLock l).store = p.store := rfl
@[simp] theorem Part.setLock_free (l : Lock) : (p.setLock l).free = p.free := rfl

/-! ### setLastEnd -/

@[simp] theorem Part.setLastEnd_cadence (e : ShotEnd) : (p.setLastEnd e).cadence = p.cadence := rfl
@[simp] theorem Part.setLastEnd_gen (e : ShotEnd) : (p.setLastEnd e).gen = p.gen := rfl
@[simp] theorem Part.setLastEnd_ticks (e : ShotEnd) : (p.setLastEnd e).ticks = p.ticks := rfl
@[simp] theorem Part.setLastEnd_trig (e : ShotEnd) : (p.setLastEnd e).trig = p.trig := rfl
@[simp] theorem Part.setLastEnd_fire (e : ShotEnd) : (p.setLastEnd e).fire = p.fire := rfl
@[simp] theorem Part.setLastEnd_bucket (e : ShotEnd) : (p.setLastEnd e).bucket = p.bucket := rfl
@[simp] theorem Part.setLastEnd_overEnergy (e : ShotEnd) : (p.setLastEnd e).overEnergy = p.overEnergy := rfl
@[simp] theorem Part.setLastEnd_stopped (e : ShotEnd) : (p.setLastEnd e).stopped = p.stopped := rfl
@[simp] theorem Part.setLastEnd_pendingCharge (e : ShotEnd) : (p.setLastEnd e).pendingCharge = p.pendingCharge := rfl
@[simp] theorem Part.setLastEnd_interlockOpen (e : ShotEnd) : (p.setLastEnd e).interlockOpen = p.interlockOpen := rfl
@[simp] theorem Part.setLastEnd_head (e : ShotEnd) : (p.setLastEnd e).head = p.head := rfl
@[simp] theorem Part.setLastEnd_headTable (e : ShotEnd) : (p.setLastEnd e).headTable = p.headTable := rfl
@[simp] theorem Part.setLastEnd_campTable (e : ShotEnd) : (p.setLastEnd e).campTable = p.campTable := rfl
@[simp] theorem Part.setLastEnd_runs (e : ShotEnd) : (p.setLastEnd e).runs = p.runs := rfl
@[simp] theorem Part.setLastEnd_arb (e : ShotEnd) : (p.setLastEnd e).arb = p.arb := rfl
@[simp] theorem Part.setLastEnd_shot (e : ShotEnd) : (p.setLastEnd e).shot = p.shot := rfl
@[simp] theorem Part.setLastEnd_port (e : ShotEnd) : (p.setLastEnd e).port = { p.port with lastEnd := some e } := rfl
@[simp] theorem Part.setLastEnd_gates (e : ShotEnd) : (p.setLastEnd e).gates = p.gates := rfl
@[simp] theorem Part.setLastEnd_banks (e : ShotEnd) : (p.setLastEnd e).banks = p.banks := rfl
@[simp] theorem Part.setLastEnd_engine (e : ShotEnd) : (p.setLastEnd e).engine = p.engine := rfl
@[simp] theorem Part.setLastEnd_corr (e : ShotEnd) : (p.setLastEnd e).corr = p.corr := rfl
@[simp] theorem Part.setLastEnd_thresh (e : ShotEnd) : (p.setLastEnd e).thresh = p.thresh := rfl
@[simp] theorem Part.setLastEnd_finder (e : ShotEnd) : (p.setLastEnd e).finder = p.finder := rfl
@[simp] theorem Part.setLastEnd_tracker (e : ShotEnd) : (p.setLastEnd e).tracker = p.tracker := rfl
@[simp] theorem Part.setLastEnd_sky (e : ShotEnd) : (p.setLastEnd e).sky = p.sky := rfl
@[simp] theorem Part.setLastEnd_link (e : ShotEnd) : (p.setLastEnd e).link = p.link := rfl
@[simp] theorem Part.setLastEnd_status (e : ShotEnd) : (p.setLastEnd e).status = p.status := rfl
@[simp] theorem Part.setLastEnd_boot (e : ShotEnd) : (p.setLastEnd e).boot = p.boot := rfl
@[simp] theorem Part.setLastEnd_loaded (e : ShotEnd) : (p.setLastEnd e).loaded = p.loaded := rfl
@[simp] theorem Part.setLastEnd_store (e : ShotEnd) : (p.setLastEnd e).store = p.store := rfl
@[simp] theorem Part.setLastEnd_free (e : ShotEnd) : (p.setLastEnd e).free = p.free := rfl

/-! ### removeShot -/

@[simp] theorem Part.removeShot_cadence : (p.removeShot).cadence = p.cadence := rfl
@[simp] theorem Part.removeShot_gen : (p.removeShot).gen = p.gen := rfl
@[simp] theorem Part.removeShot_ticks : (p.removeShot).ticks = p.ticks := rfl
@[simp] theorem Part.removeShot_trig : (p.removeShot).trig = p.trig := rfl
@[simp] theorem Part.removeShot_fire : (p.removeShot).fire = p.fire := rfl
@[simp] theorem Part.removeShot_bucket : (p.removeShot).bucket = p.bucket := rfl
@[simp] theorem Part.removeShot_overEnergy : (p.removeShot).overEnergy = p.overEnergy := rfl
@[simp] theorem Part.removeShot_stopped : (p.removeShot).stopped = p.stopped := rfl
@[simp] theorem Part.removeShot_pendingCharge : (p.removeShot).pendingCharge = p.pendingCharge := rfl
@[simp] theorem Part.removeShot_interlockOpen : (p.removeShot).interlockOpen = p.interlockOpen := rfl
@[simp] theorem Part.removeShot_head : (p.removeShot).head = p.head := rfl
@[simp] theorem Part.removeShot_headTable : (p.removeShot).headTable = p.headTable := rfl
@[simp] theorem Part.removeShot_campTable : (p.removeShot).campTable = p.campTable := rfl
@[simp] theorem Part.removeShot_runs : (p.removeShot).runs = p.runs := rfl
@[simp] theorem Part.removeShot_arb : (p.removeShot).arb = p.arb := rfl
@[simp] theorem Part.removeShot_shot : (p.removeShot).shot = none := rfl
@[simp] theorem Part.removeShot_port : (p.removeShot).port = { p.port with timer := none, rx := p.port.rx.unbind } := rfl
@[simp] theorem Part.removeShot_gates : (p.removeShot).gates = p.gates := rfl
@[simp] theorem Part.removeShot_banks : (p.removeShot).banks = p.banks := rfl
@[simp] theorem Part.removeShot_engine : (p.removeShot).engine = p.engine := rfl
@[simp] theorem Part.removeShot_corr : (p.removeShot).corr = p.corr := rfl
@[simp] theorem Part.removeShot_thresh : (p.removeShot).thresh = p.thresh := rfl
@[simp] theorem Part.removeShot_finder : (p.removeShot).finder = p.finder := rfl
@[simp] theorem Part.removeShot_tracker : (p.removeShot).tracker = p.tracker := rfl
@[simp] theorem Part.removeShot_sky : (p.removeShot).sky = p.sky := rfl
@[simp] theorem Part.removeShot_link : (p.removeShot).link = p.link := rfl
@[simp] theorem Part.removeShot_status : (p.removeShot).status = p.status := rfl
@[simp] theorem Part.removeShot_boot : (p.removeShot).boot = p.boot := rfl
@[simp] theorem Part.removeShot_loaded : (p.removeShot).loaded = p.loaded := rfl
@[simp] theorem Part.removeShot_store : (p.removeShot).store = p.store := rfl
@[simp] theorem Part.removeShot_free : (p.removeShot).free = p.free := rfl

/-! ### setLinkRx -/

@[simp] theorem Part.setLinkRx_cadence (rx : LinkRx) : (p.setLinkRx rx).cadence = p.cadence := rfl
@[simp] theorem Part.setLinkRx_gen (rx : LinkRx) : (p.setLinkRx rx).gen = p.gen := rfl
@[simp] theorem Part.setLinkRx_ticks (rx : LinkRx) : (p.setLinkRx rx).ticks = p.ticks := rfl
@[simp] theorem Part.setLinkRx_trig (rx : LinkRx) : (p.setLinkRx rx).trig = p.trig := rfl
@[simp] theorem Part.setLinkRx_fire (rx : LinkRx) : (p.setLinkRx rx).fire = p.fire := rfl
@[simp] theorem Part.setLinkRx_bucket (rx : LinkRx) : (p.setLinkRx rx).bucket = p.bucket := rfl
@[simp] theorem Part.setLinkRx_overEnergy (rx : LinkRx) : (p.setLinkRx rx).overEnergy = p.overEnergy := rfl
@[simp] theorem Part.setLinkRx_stopped (rx : LinkRx) : (p.setLinkRx rx).stopped = p.stopped := rfl
@[simp] theorem Part.setLinkRx_pendingCharge (rx : LinkRx) : (p.setLinkRx rx).pendingCharge = p.pendingCharge := rfl
@[simp] theorem Part.setLinkRx_interlockOpen (rx : LinkRx) : (p.setLinkRx rx).interlockOpen = p.interlockOpen := rfl
@[simp] theorem Part.setLinkRx_head (rx : LinkRx) : (p.setLinkRx rx).head = p.head := rfl
@[simp] theorem Part.setLinkRx_headTable (rx : LinkRx) : (p.setLinkRx rx).headTable = p.headTable := rfl
@[simp] theorem Part.setLinkRx_campTable (rx : LinkRx) : (p.setLinkRx rx).campTable = p.campTable := rfl
@[simp] theorem Part.setLinkRx_runs (rx : LinkRx) : (p.setLinkRx rx).runs = p.runs := rfl
@[simp] theorem Part.setLinkRx_arb (rx : LinkRx) : (p.setLinkRx rx).arb = p.arb := rfl
@[simp] theorem Part.setLinkRx_shot (rx : LinkRx) : (p.setLinkRx rx).shot = p.shot := rfl
@[simp] theorem Part.setLinkRx_port (rx : LinkRx) : (p.setLinkRx rx).port = p.port := rfl
@[simp] theorem Part.setLinkRx_gates (rx : LinkRx) : (p.setLinkRx rx).gates = p.gates := rfl
@[simp] theorem Part.setLinkRx_banks (rx : LinkRx) : (p.setLinkRx rx).banks = p.banks := rfl
@[simp] theorem Part.setLinkRx_engine (rx : LinkRx) : (p.setLinkRx rx).engine = p.engine := rfl
@[simp] theorem Part.setLinkRx_corr (rx : LinkRx) : (p.setLinkRx rx).corr = p.corr := rfl
@[simp] theorem Part.setLinkRx_thresh (rx : LinkRx) : (p.setLinkRx rx).thresh = p.thresh := rfl
@[simp] theorem Part.setLinkRx_finder (rx : LinkRx) : (p.setLinkRx rx).finder = p.finder := rfl
@[simp] theorem Part.setLinkRx_tracker (rx : LinkRx) : (p.setLinkRx rx).tracker = p.tracker := rfl
@[simp] theorem Part.setLinkRx_sky (rx : LinkRx) : (p.setLinkRx rx).sky = p.sky := rfl
@[simp] theorem Part.setLinkRx_link (rx : LinkRx) : (p.setLinkRx rx).link = { p.link with rx := rx } := rfl
@[simp] theorem Part.setLinkRx_status (rx : LinkRx) : (p.setLinkRx rx).status = p.status := rfl
@[simp] theorem Part.setLinkRx_boot (rx : LinkRx) : (p.setLinkRx rx).boot = p.boot := rfl
@[simp] theorem Part.setLinkRx_loaded (rx : LinkRx) : (p.setLinkRx rx).loaded = p.loaded := rfl
@[simp] theorem Part.setLinkRx_store (rx : LinkRx) : (p.setLinkRx rx).store = p.store := rfl
@[simp] theorem Part.setLinkRx_free (rx : LinkRx) : (p.setLinkRx rx).free = p.free := rfl

/-! ### setStore -/

@[simp] theorem Part.setStore_cadence (st : Store) : (p.setStore st).cadence = p.cadence := rfl
@[simp] theorem Part.setStore_gen (st : Store) : (p.setStore st).gen = p.gen := rfl
@[simp] theorem Part.setStore_ticks (st : Store) : (p.setStore st).ticks = p.ticks := rfl
@[simp] theorem Part.setStore_trig (st : Store) : (p.setStore st).trig = p.trig := rfl
@[simp] theorem Part.setStore_fire (st : Store) : (p.setStore st).fire = p.fire := rfl
@[simp] theorem Part.setStore_bucket (st : Store) : (p.setStore st).bucket = p.bucket := rfl
@[simp] theorem Part.setStore_overEnergy (st : Store) : (p.setStore st).overEnergy = p.overEnergy := rfl
@[simp] theorem Part.setStore_stopped (st : Store) : (p.setStore st).stopped = p.stopped := rfl
@[simp] theorem Part.setStore_pendingCharge (st : Store) : (p.setStore st).pendingCharge = p.pendingCharge := rfl
@[simp] theorem Part.setStore_interlockOpen (st : Store) : (p.setStore st).interlockOpen = p.interlockOpen := rfl
@[simp] theorem Part.setStore_head (st : Store) : (p.setStore st).head = p.head := rfl
@[simp] theorem Part.setStore_headTable (st : Store) : (p.setStore st).headTable = p.headTable := rfl
@[simp] theorem Part.setStore_campTable (st : Store) : (p.setStore st).campTable = p.campTable := rfl
@[simp] theorem Part.setStore_runs (st : Store) : (p.setStore st).runs = p.runs := rfl
@[simp] theorem Part.setStore_arb (st : Store) : (p.setStore st).arb = p.arb := rfl
@[simp] theorem Part.setStore_shot (st : Store) : (p.setStore st).shot = p.shot := rfl
@[simp] theorem Part.setStore_port (st : Store) : (p.setStore st).port = p.port := rfl
@[simp] theorem Part.setStore_gates (st : Store) : (p.setStore st).gates = p.gates := rfl
@[simp] theorem Part.setStore_banks (st : Store) : (p.setStore st).banks = p.banks := rfl
@[simp] theorem Part.setStore_engine (st : Store) : (p.setStore st).engine = p.engine := rfl
@[simp] theorem Part.setStore_corr (st : Store) : (p.setStore st).corr = p.corr := rfl
@[simp] theorem Part.setStore_thresh (st : Store) : (p.setStore st).thresh = p.thresh := rfl
@[simp] theorem Part.setStore_finder (st : Store) : (p.setStore st).finder = p.finder := rfl
@[simp] theorem Part.setStore_tracker (st : Store) : (p.setStore st).tracker = p.tracker := rfl
@[simp] theorem Part.setStore_sky (st : Store) : (p.setStore st).sky = p.sky := rfl
@[simp] theorem Part.setStore_link (st : Store) : (p.setStore st).link = p.link := rfl
@[simp] theorem Part.setStore_status (st : Store) : (p.setStore st).status = p.status := rfl
@[simp] theorem Part.setStore_boot (st : Store) : (p.setStore st).boot = p.boot := rfl
@[simp] theorem Part.setStore_loaded (st : Store) : (p.setStore st).loaded = p.loaded := rfl
@[simp] theorem Part.setStore_store (st : Store) : (p.setStore st).store = st := rfl
@[simp] theorem Part.setStore_free (st : Store) : (p.setStore st).free = p.free := rfl

/-! ### hold -/

@[simp] theorem Part.hold_cadence (h : Held) : (p.hold h).cadence = p.cadence := rfl
@[simp] theorem Part.hold_gen (h : Held) : (p.hold h).gen = p.gen := rfl
@[simp] theorem Part.hold_ticks (h : Held) : (p.hold h).ticks = p.ticks := rfl
@[simp] theorem Part.hold_trig (h : Held) : (p.hold h).trig = p.trig := rfl
@[simp] theorem Part.hold_fire (h : Held) : (p.hold h).fire = p.fire := rfl
@[simp] theorem Part.hold_bucket (h : Held) : (p.hold h).bucket = p.bucket := rfl
@[simp] theorem Part.hold_overEnergy (h : Held) : (p.hold h).overEnergy = p.overEnergy := rfl
@[simp] theorem Part.hold_stopped (h : Held) : (p.hold h).stopped = p.stopped := rfl
@[simp] theorem Part.hold_pendingCharge (h : Held) : (p.hold h).pendingCharge = p.pendingCharge := rfl
@[simp] theorem Part.hold_interlockOpen (h : Held) : (p.hold h).interlockOpen = p.interlockOpen := rfl
@[simp] theorem Part.hold_head (h : Held) : (p.hold h).head = p.head := rfl
@[simp] theorem Part.hold_headTable (h : Held) : (p.hold h).headTable = p.headTable := rfl
@[simp] theorem Part.hold_campTable (h : Held) : (p.hold h).campTable = p.campTable := rfl
@[simp] theorem Part.hold_runs (h : Held) : (p.hold h).runs = p.runs := rfl
@[simp] theorem Part.hold_arb (h : Held) : (p.hold h).arb = p.arb := rfl
@[simp] theorem Part.hold_shot (h : Held) : (p.hold h).shot = p.shot := rfl
@[simp] theorem Part.hold_port (h : Held) : (p.hold h).port = p.port := rfl
@[simp] theorem Part.hold_gates (h : Held) : (p.hold h).gates = p.gates := rfl
@[simp] theorem Part.hold_banks (h : Held) : (p.hold h).banks = p.banks := rfl
@[simp] theorem Part.hold_engine (h : Held) : (p.hold h).engine = p.engine := rfl
@[simp] theorem Part.hold_corr (h : Held) : (p.hold h).corr = p.corr := rfl
@[simp] theorem Part.hold_thresh (h : Held) : (p.hold h).thresh = p.thresh := rfl
@[simp] theorem Part.hold_finder (h : Held) : (p.hold h).finder = p.finder := rfl
@[simp] theorem Part.hold_tracker (h : Held) : (p.hold h).tracker = p.tracker := rfl
@[simp] theorem Part.hold_sky (h : Held) : (p.hold h).sky = p.sky := rfl
@[simp] theorem Part.hold_link (h : Held) : (p.hold h).link = { p.link with held := some h } := rfl
@[simp] theorem Part.hold_status (h : Held) : (p.hold h).status = p.status := rfl
@[simp] theorem Part.hold_boot (h : Held) : (p.hold h).boot = p.boot := rfl
@[simp] theorem Part.hold_loaded (h : Held) : (p.hold h).loaded = p.loaded := rfl
@[simp] theorem Part.hold_store (h : Held) : (p.hold h).store = p.store := rfl
@[simp] theorem Part.hold_free (h : Held) : (p.hold h).free = p.free := rfl

/-! ### release -/

@[simp] theorem Part.release_cadence : (p.release).cadence = p.cadence := rfl
@[simp] theorem Part.release_gen : (p.release).gen = p.gen := rfl
@[simp] theorem Part.release_ticks : (p.release).ticks = p.ticks := rfl
@[simp] theorem Part.release_trig : (p.release).trig = p.trig := rfl
@[simp] theorem Part.release_fire : (p.release).fire = p.fire := rfl
@[simp] theorem Part.release_bucket : (p.release).bucket = p.bucket := rfl
@[simp] theorem Part.release_overEnergy : (p.release).overEnergy = p.overEnergy := rfl
@[simp] theorem Part.release_stopped : (p.release).stopped = p.stopped := rfl
@[simp] theorem Part.release_pendingCharge : (p.release).pendingCharge = p.pendingCharge := rfl
@[simp] theorem Part.release_interlockOpen : (p.release).interlockOpen = p.interlockOpen := rfl
@[simp] theorem Part.release_head : (p.release).head = p.head := rfl
@[simp] theorem Part.release_headTable : (p.release).headTable = p.headTable := rfl
@[simp] theorem Part.release_campTable : (p.release).campTable = p.campTable := rfl
@[simp] theorem Part.release_runs : (p.release).runs = p.runs := rfl
@[simp] theorem Part.release_arb : (p.release).arb = p.arb := rfl
@[simp] theorem Part.release_shot : (p.release).shot = p.shot := rfl
@[simp] theorem Part.release_port : (p.release).port = p.port := rfl
@[simp] theorem Part.release_gates : (p.release).gates = p.gates := rfl
@[simp] theorem Part.release_banks : (p.release).banks = p.banks := rfl
@[simp] theorem Part.release_engine : (p.release).engine = p.engine := rfl
@[simp] theorem Part.release_corr : (p.release).corr = p.corr := rfl
@[simp] theorem Part.release_thresh : (p.release).thresh = p.thresh := rfl
@[simp] theorem Part.release_finder : (p.release).finder = p.finder := rfl
@[simp] theorem Part.release_tracker : (p.release).tracker = p.tracker := rfl
@[simp] theorem Part.release_sky : (p.release).sky = p.sky := rfl
@[simp] theorem Part.release_link : (p.release).link = { p.link with held := none } := rfl
@[simp] theorem Part.release_status : (p.release).status = p.status := rfl
@[simp] theorem Part.release_boot : (p.release).boot = p.boot := rfl
@[simp] theorem Part.release_loaded : (p.release).loaded = p.loaded := rfl
@[simp] theorem Part.release_store : (p.release).store = p.store := rfl
@[simp] theorem Part.release_free : (p.release).free = p.free := rfl

end Sys2Proof.Machine
end

