-- ==== Sys2Proof/Laws/Outbound.lean ====
section
/-! SUPPORT. What the outbound side can do to the part: beginning a frame, placing a reply and raising a flag change the link,
the status and the profile out slot, and nothing else; and each says which of their fields it keeps. -/

namespace Sys2Proof.Machine

variable (p : Part)

/-- A frame boundary changes only the sources and the frame on the wire (R153). -/
theorem Part.beginFrame_frame :
    p.beginFrame = { p with
      link := { p.link with replies := p.beginFrame.link.replies, reports := p.beginFrame.link.reports
                            sending := p.beginFrame.link.sending }
      status := { p.status with pendingSet := p.beginFrame.status.pendingSet }
      engine := { p.engine with slot := p.beginFrame.engine.slot } } := by
  unfold Part.beginFrame
  repeat' split
  all_goals rfl

/-- A source that has become non-empty changes only the sources and the frame on the wire (R153). -/
theorem Part.kick_frame :
    p.kick = { p with
      link := { p.link with replies := p.kick.link.replies, reports := p.kick.link.reports
                            sending := p.kick.link.sending }
      status := { p.status with pendingSet := p.kick.status.pendingSet }
      engine := { p.engine with slot := p.kick.engine.slot } } := by
  unfold Part.kick
  split
  · exact p.beginFrame_frame
  · rfl

/-! ### beginFrame -/

@[simp] theorem Part.beginFrame_cadence : (p.beginFrame).cadence = p.cadence := by rw [beginFrame_frame]
@[simp] theorem Part.beginFrame_gen : (p.beginFrame).gen = p.gen := by rw [beginFrame_frame]
@[simp] theorem Part.beginFrame_ticks : (p.beginFrame).ticks = p.ticks := by rw [beginFrame_frame]
@[simp] theorem Part.beginFrame_trig : (p.beginFrame).trig = p.trig := by rw [beginFrame_frame]
@[simp] theorem Part.beginFrame_fire : (p.beginFrame).fire = p.fire := by rw [beginFrame_frame]
@[simp] theorem Part.beginFrame_bucket : (p.beginFrame).bucket = p.bucket := by rw [beginFrame_frame]
@[simp] theorem Part.beginFrame_overEnergy : (p.beginFrame).overEnergy = p.overEnergy := by rw [beginFrame_frame]
@[simp] theorem Part.beginFrame_stopped : (p.beginFrame).stopped = p.stopped := by rw [beginFrame_frame]
@[simp] theorem Part.beginFrame_pendingCharge : (p.beginFrame).pendingCharge = p.pendingCharge := by rw [beginFrame_frame]
@[simp] theorem Part.beginFrame_interlockOpen : (p.beginFrame).interlockOpen = p.interlockOpen := by rw [beginFrame_frame]
@[simp] theorem Part.beginFrame_head : (p.beginFrame).head = p.head := by rw [beginFrame_frame]
@[simp] theorem Part.beginFrame_headTable : (p.beginFrame).headTable = p.headTable := by rw [beginFrame_frame]
@[simp] theorem Part.beginFrame_campTable : (p.beginFrame).campTable = p.campTable := by rw [beginFrame_frame]
@[simp] theorem Part.beginFrame_runs : (p.beginFrame).runs = p.runs := by rw [beginFrame_frame]
@[simp] theorem Part.beginFrame_arb : (p.beginFrame).arb = p.arb := by rw [beginFrame_frame]
@[simp] theorem Part.beginFrame_shot : (p.beginFrame).shot = p.shot := by rw [beginFrame_frame]
@[simp] theorem Part.beginFrame_port : (p.beginFrame).port = p.port := by rw [beginFrame_frame]
@[simp] theorem Part.beginFrame_gates : (p.beginFrame).gates = p.gates := by rw [beginFrame_frame]
@[simp] theorem Part.beginFrame_banks : (p.beginFrame).banks = p.banks := by rw [beginFrame_frame]
@[simp] theorem Part.beginFrame_corr : (p.beginFrame).corr = p.corr := by rw [beginFrame_frame]
@[simp] theorem Part.beginFrame_thresh : (p.beginFrame).thresh = p.thresh := by rw [beginFrame_frame]
@[simp] theorem Part.beginFrame_finder : (p.beginFrame).finder = p.finder := by rw [beginFrame_frame]
@[simp] theorem Part.beginFrame_tracker : (p.beginFrame).tracker = p.tracker := by rw [beginFrame_frame]
@[simp] theorem Part.beginFrame_sky : (p.beginFrame).sky = p.sky := by rw [beginFrame_frame]
@[simp] theorem Part.beginFrame_boot : (p.beginFrame).boot = p.boot := by rw [beginFrame_frame]
@[simp] theorem Part.beginFrame_loaded : (p.beginFrame).loaded = p.loaded := by rw [beginFrame_frame]
@[simp] theorem Part.beginFrame_store : (p.beginFrame).store = p.store := by rw [beginFrame_frame]
@[simp] theorem Part.beginFrame_free : (p.beginFrame).free = p.free := by rw [beginFrame_frame]
@[simp] theorem Part.beginFrame_link_rate : (p.beginFrame).link.rate = p.link.rate := by rw [beginFrame_frame]
@[simp] theorem Part.beginFrame_link_rx : (p.beginFrame).link.rx = p.link.rx := by rw [beginFrame_frame]
@[simp] theorem Part.beginFrame_link_lastError : (p.beginFrame).link.lastError = p.link.lastError := by rw [beginFrame_frame]
@[simp] theorem Part.beginFrame_link_commands : (p.beginFrame).link.commands = p.link.commands := by rw [beginFrame_frame]
@[simp] theorem Part.beginFrame_link_held : (p.beginFrame).link.held = p.link.held := by rw [beginFrame_frame]
@[simp] theorem Part.beginFrame_status_flags : (p.beginFrame).status.flags = p.status.flags := by rw [beginFrame_frame]
@[simp] theorem Part.beginFrame_status_enables : (p.beginFrame).status.enables = p.status.enables := by rw [beginFrame_frame]
@[simp] theorem Part.beginFrame_status_global : (p.beginFrame).status.global = p.status.global := by rw [beginFrame_frame]
@[simp] theorem Part.beginFrame_engine_inHand : (p.beginFrame).engine.inHand = p.engine.inHand := by rw [beginFrame_frame]
@[simp] theorem Part.beginFrame_engine_queue : (p.beginFrame).engine.queue = p.engine.queue := by rw [beginFrame_frame]
@[simp] theorem Part.beginFrame_engine_lastERef : (p.beginFrame).engine.lastERef = p.engine.lastERef := by rw [beginFrame_frame]
@[simp] theorem Part.beginFrame_engine_dark : (p.beginFrame).engine.dark = p.engine.dark := by rw [beginFrame_frame]
@[simp] theorem Part.beginFrame_engine_skipped : (p.beginFrame).engine.skipped = p.engine.skipped := by rw [beginFrame_frame]

/-! ### kick -/

@[simp] theorem Part.kick_cadence : (p.kick).cadence = p.cadence := by rw [kick_frame]
@[simp] theorem Part.kick_gen : (p.kick).gen = p.gen := by rw [kick_frame]
@[simp] theorem Part.kick_ticks : (p.kick).ticks = p.ticks := by rw [kick_frame]
@[simp] theorem Part.kick_trig : (p.kick).trig = p.trig := by rw [kick_frame]
@[simp] theorem Part.kick_fire : (p.kick).fire = p.fire := by rw [kick_frame]
@[simp] theorem Part.kick_bucket : (p.kick).bucket = p.bucket := by rw [kick_frame]
@[simp] theorem Part.kick_overEnergy : (p.kick).overEnergy = p.overEnergy := by rw [kick_frame]
@[simp] theorem Part.kick_stopped : (p.kick).stopped = p.stopped := by rw [kick_frame]
@[simp] theorem Part.kick_pendingCharge : (p.kick).pendingCharge = p.pendingCharge := by rw [kick_frame]
@[simp] theorem Part.kick_interlockOpen : (p.kick).interlockOpen = p.interlockOpen := by rw [kick_frame]
@[simp] theorem Part.kick_head : (p.kick).head = p.head := by rw [kick_frame]
@[simp] theorem Part.kick_headTable : (p.kick).headTable = p.headTable := by rw [kick_frame]
@[simp] theorem Part.kick_campTable : (p.kick).campTable = p.campTable := by rw [kick_frame]
@[simp] theorem Part.kick_runs : (p.kick).runs = p.runs := by rw [kick_frame]
@[simp] theorem Part.kick_arb : (p.kick).arb = p.arb := by rw [kick_frame]
@[simp] theorem Part.kick_shot : (p.kick).shot = p.shot := by rw [kick_frame]
@[simp] theorem Part.kick_port : (p.kick).port = p.port := by rw [kick_frame]
@[simp] theorem Part.kick_gates : (p.kick).gates = p.gates := by rw [kick_frame]
@[simp] theorem Part.kick_banks : (p.kick).banks = p.banks := by rw [kick_frame]
@[simp] theorem Part.kick_corr : (p.kick).corr = p.corr := by rw [kick_frame]
@[simp] theorem Part.kick_thresh : (p.kick).thresh = p.thresh := by rw [kick_frame]
@[simp] theorem Part.kick_finder : (p.kick).finder = p.finder := by rw [kick_frame]
@[simp] theorem Part.kick_tracker : (p.kick).tracker = p.tracker := by rw [kick_frame]
@[simp] theorem Part.kick_sky : (p.kick).sky = p.sky := by rw [kick_frame]
@[simp] theorem Part.kick_boot : (p.kick).boot = p.boot := by rw [kick_frame]
@[simp] theorem Part.kick_loaded : (p.kick).loaded = p.loaded := by rw [kick_frame]
@[simp] theorem Part.kick_store : (p.kick).store = p.store := by rw [kick_frame]
@[simp] theorem Part.kick_free : (p.kick).free = p.free := by rw [kick_frame]
@[simp] theorem Part.kick_link_rate : (p.kick).link.rate = p.link.rate := by rw [kick_frame]
@[simp] theorem Part.kick_link_rx : (p.kick).link.rx = p.link.rx := by rw [kick_frame]
@[simp] theorem Part.kick_link_lastError : (p.kick).link.lastError = p.link.lastError := by rw [kick_frame]
@[simp] theorem Part.kick_link_commands : (p.kick).link.commands = p.link.commands := by rw [kick_frame]
@[simp] theorem Part.kick_link_held : (p.kick).link.held = p.link.held := by rw [kick_frame]
@[simp] theorem Part.kick_status_flags : (p.kick).status.flags = p.status.flags := by rw [kick_frame]
@[simp] theorem Part.kick_status_enables : (p.kick).status.enables = p.status.enables := by rw [kick_frame]
@[simp] theorem Part.kick_status_global : (p.kick).status.global = p.status.global := by rw [kick_frame]
@[simp] theorem Part.kick_engine_inHand : (p.kick).engine.inHand = p.engine.inHand := by rw [kick_frame]
@[simp] theorem Part.kick_engine_queue : (p.kick).engine.queue = p.engine.queue := by rw [kick_frame]
@[simp] theorem Part.kick_engine_lastERef : (p.kick).engine.lastERef = p.engine.lastERef := by rw [kick_frame]
@[simp] theorem Part.kick_engine_dark : (p.kick).engine.dark = p.engine.dark := by rw [kick_frame]
@[simp] theorem Part.kick_engine_skipped : (p.kick).engine.skipped = p.engine.skipped := by rw [kick_frame]

/-! ### placeReply -/

@[simp] theorem Part.placeReply_cadence (r : Reply) : (p.placeReply r).cadence = p.cadence := by simp [Part.placeReply]
@[simp] theorem Part.placeReply_gen (r : Reply) : (p.placeReply r).gen = p.gen := by simp [Part.placeReply]
@[simp] theorem Part.placeReply_ticks (r : Reply) : (p.placeReply r).ticks = p.ticks := by simp [Part.placeReply]
@[simp] theorem Part.placeReply_trig (r : Reply) : (p.placeReply r).trig = p.trig := by simp [Part.placeReply]
@[simp] theorem Part.placeReply_fire (r : Reply) : (p.placeReply r).fire = p.fire := by simp [Part.placeReply]
@[simp] theorem Part.placeReply_bucket (r : Reply) : (p.placeReply r).bucket = p.bucket := by simp [Part.placeReply]
@[simp] theorem Part.placeReply_overEnergy (r : Reply) : (p.placeReply r).overEnergy = p.overEnergy := by simp [Part.placeReply]
@[simp] theorem Part.placeReply_stopped (r : Reply) : (p.placeReply r).stopped = p.stopped := by simp [Part.placeReply]
@[simp] theorem Part.placeReply_pendingCharge (r : Reply) : (p.placeReply r).pendingCharge = p.pendingCharge := by simp [Part.placeReply]
@[simp] theorem Part.placeReply_interlockOpen (r : Reply) : (p.placeReply r).interlockOpen = p.interlockOpen := by simp [Part.placeReply]
@[simp] theorem Part.placeReply_head (r : Reply) : (p.placeReply r).head = p.head := by simp [Part.placeReply]
@[simp] theorem Part.placeReply_headTable (r : Reply) : (p.placeReply r).headTable = p.headTable := by simp [Part.placeReply]
@[simp] theorem Part.placeReply_campTable (r : Reply) : (p.placeReply r).campTable = p.campTable := by simp [Part.placeReply]
@[simp] theorem Part.placeReply_runs (r : Reply) : (p.placeReply r).runs = p.runs := by simp [Part.placeReply]
@[simp] theorem Part.placeReply_arb (r : Reply) : (p.placeReply r).arb = p.arb := by simp [Part.placeReply]
@[simp] theorem Part.placeReply_shot (r : Reply) : (p.placeReply r).shot = p.shot := by simp [Part.placeReply]
@[simp] theorem Part.placeReply_port (r : Reply) : (p.placeReply r).port = p.port := by simp [Part.placeReply]
@[simp] theorem Part.placeReply_gates (r : Reply) : (p.placeReply r).gates = p.gates := by simp [Part.placeReply]
@[simp] theorem Part.placeReply_banks (r : Reply) : (p.placeReply r).banks = p.banks := by simp [Part.placeReply]
@[simp] theorem Part.placeReply_corr (r : Reply) : (p.placeReply r).corr = p.corr := by simp [Part.placeReply]
@[simp] theorem Part.placeReply_thresh (r : Reply) : (p.placeReply r).thresh = p.thresh := by simp [Part.placeReply]
@[simp] theorem Part.placeReply_finder (r : Reply) : (p.placeReply r).finder = p.finder := by simp [Part.placeReply]
@[simp] theorem Part.placeReply_tracker (r : Reply) : (p.placeReply r).tracker = p.tracker := by simp [Part.placeReply]
@[simp] theorem Part.placeReply_sky (r : Reply) : (p.placeReply r).sky = p.sky := by simp [Part.placeReply]
@[simp] theorem Part.placeReply_boot (r : Reply) : (p.placeReply r).boot = p.boot := by simp [Part.placeReply]
@[simp] theorem Part.placeReply_loaded (r : Reply) : (p.placeReply r).loaded = p.loaded := by simp [Part.placeReply]
@[simp] theorem Part.placeReply_store (r : Reply) : (p.placeReply r).store = p.store := by simp [Part.placeReply]
@[simp] theorem Part.placeReply_free (r : Reply) : (p.placeReply r).free = p.free := by simp [Part.placeReply]
@[simp] theorem Part.placeReply_link_rate (r : Reply) : (p.placeReply r).link.rate = p.link.rate := by simp [Part.placeReply]
@[simp] theorem Part.placeReply_link_rx (r : Reply) : (p.placeReply r).link.rx = p.link.rx := by simp [Part.placeReply]
@[simp] theorem Part.placeReply_link_lastError (r : Reply) : (p.placeReply r).link.lastError = p.link.lastError := by simp [Part.placeReply]
@[simp] theorem Part.placeReply_link_commands (r : Reply) : (p.placeReply r).link.commands = p.link.commands := by simp [Part.placeReply]
@[simp] theorem Part.placeReply_link_held (r : Reply) : (p.placeReply r).link.held = p.link.held := by simp [Part.placeReply]
@[simp] theorem Part.placeReply_status_flags (r : Reply) : (p.placeReply r).status.flags = p.status.flags := by simp [Part.placeReply]
@[simp] theorem Part.placeReply_status_enables (r : Reply) : (p.placeReply r).status.enables = p.status.enables := by simp [Part.placeReply]
@[simp] theorem Part.placeReply_status_global (r : Reply) : (p.placeReply r).status.global = p.status.global := by simp [Part.placeReply]
@[simp] theorem Part.placeReply_engine_inHand (r : Reply) : (p.placeReply r).engine.inHand = p.engine.inHand := by simp [Part.placeReply]
@[simp] theorem Part.placeReply_engine_queue (r : Reply) : (p.placeReply r).engine.queue = p.engine.queue := by simp [Part.placeReply]
@[simp] theorem Part.placeReply_engine_lastERef (r : Reply) : (p.placeReply r).engine.lastERef = p.engine.lastERef := by simp [Part.placeReply]
@[simp] theorem Part.placeReply_engine_dark (r : Reply) : (p.placeReply r).engine.dark = p.engine.dark := by simp [Part.placeReply]
@[simp] theorem Part.placeReply_engine_skipped (r : Reply) : (p.placeReply r).engine.skipped = p.engine.skipped := by simp [Part.placeReply]

/-! ### answer -/

@[simp] theorem Part.answer_cadence (c : Command) (code : ResultCode) (data : List Byte) : (p.answer c code data).cadence = p.cadence := by simp [Part.answer]
@[simp] theorem Part.answer_gen (c : Command) (code : ResultCode) (data : List Byte) : (p.answer c code data).gen = p.gen := by simp [Part.answer]
@[simp] theorem Part.answer_ticks (c : Command) (code : ResultCode) (data : List Byte) : (p.answer c code data).ticks = p.ticks := by simp [Part.answer]
@[simp] theorem Part.answer_trig (c : Command) (code : ResultCode) (data : List Byte) : (p.answer c code data).trig = p.trig := by simp [Part.answer]
@[simp] theorem Part.answer_fire (c : Command) (code : ResultCode) (data : List Byte) : (p.answer c code data).fire = p.fire := by simp [Part.answer]
@[simp] theorem Part.answer_bucket (c : Command) (code : ResultCode) (data : List Byte) : (p.answer c code data).bucket = p.bucket := by simp [Part.answer]
@[simp] theorem Part.answer_overEnergy (c : Command) (code : ResultCode) (data : List Byte) : (p.answer c code data).overEnergy = p.overEnergy := by simp [Part.answer]
@[simp] theorem Part.answer_stopped (c : Command) (code : ResultCode) (data : List Byte) : (p.answer c code data).stopped = p.stopped := by simp [Part.answer]
@[simp] theorem Part.answer_pendingCharge (c : Command) (code : ResultCode) (data : List Byte) : (p.answer c code data).pendingCharge = p.pendingCharge := by simp [Part.answer]
@[simp] theorem Part.answer_interlockOpen (c : Command) (code : ResultCode) (data : List Byte) : (p.answer c code data).interlockOpen = p.interlockOpen := by simp [Part.answer]
@[simp] theorem Part.answer_head (c : Command) (code : ResultCode) (data : List Byte) : (p.answer c code data).head = p.head := by simp [Part.answer]
@[simp] theorem Part.answer_headTable (c : Command) (code : ResultCode) (data : List Byte) : (p.answer c code data).headTable = p.headTable := by simp [Part.answer]
@[simp] theorem Part.answer_campTable (c : Command) (code : ResultCode) (data : List Byte) : (p.answer c code data).campTable = p.campTable := by simp [Part.answer]
@[simp] theorem Part.answer_runs (c : Command) (code : ResultCode) (data : List Byte) : (p.answer c code data).runs = p.runs := by simp [Part.answer]
@[simp] theorem Part.answer_arb (c : Command) (code : ResultCode) (data : List Byte) : (p.answer c code data).arb = p.arb := by simp [Part.answer]
@[simp] theorem Part.answer_shot (c : Command) (code : ResultCode) (data : List Byte) : (p.answer c code data).shot = p.shot := by simp [Part.answer]
@[simp] theorem Part.answer_port (c : Command) (code : ResultCode) (data : List Byte) : (p.answer c code data).port = p.port := by simp [Part.answer]
@[simp] theorem Part.answer_gates (c : Command) (code : ResultCode) (data : List Byte) : (p.answer c code data).gates = p.gates := by simp [Part.answer]
@[simp] theorem Part.answer_banks (c : Command) (code : ResultCode) (data : List Byte) : (p.answer c code data).banks = p.banks := by simp [Part.answer]
@[simp] theorem Part.answer_corr (c : Command) (code : ResultCode) (data : List Byte) : (p.answer c code data).corr = p.corr := by simp [Part.answer]
@[simp] theorem Part.answer_thresh (c : Command) (code : ResultCode) (data : List Byte) : (p.answer c code data).thresh = p.thresh := by simp [Part.answer]
@[simp] theorem Part.answer_finder (c : Command) (code : ResultCode) (data : List Byte) : (p.answer c code data).finder = p.finder := by simp [Part.answer]
@[simp] theorem Part.answer_tracker (c : Command) (code : ResultCode) (data : List Byte) : (p.answer c code data).tracker = p.tracker := by simp [Part.answer]
@[simp] theorem Part.answer_sky (c : Command) (code : ResultCode) (data : List Byte) : (p.answer c code data).sky = p.sky := by simp [Part.answer]
@[simp] theorem Part.answer_boot (c : Command) (code : ResultCode) (data : List Byte) : (p.answer c code data).boot = p.boot := by simp [Part.answer]
@[simp] theorem Part.answer_loaded (c : Command) (code : ResultCode) (data : List Byte) : (p.answer c code data).loaded = p.loaded := by simp [Part.answer]
@[simp] theorem Part.answer_store (c : Command) (code : ResultCode) (data : List Byte) : (p.answer c code data).store = p.store := by simp [Part.answer]
@[simp] theorem Part.answer_free (c : Command) (code : ResultCode) (data : List Byte) : (p.answer c code data).free = p.free := by simp [Part.answer]
@[simp] theorem Part.answer_link_rate (c : Command) (code : ResultCode) (data : List Byte) : (p.answer c code data).link.rate = p.link.rate := by simp [Part.answer]
@[simp] theorem Part.answer_link_rx (c : Command) (code : ResultCode) (data : List Byte) : (p.answer c code data).link.rx = p.link.rx := by simp [Part.answer]
@[simp] theorem Part.answer_link_lastError (c : Command) (code : ResultCode) (data : List Byte) : (p.answer c code data).link.lastError = p.link.lastError := by simp [Part.answer]
@[simp] theorem Part.answer_link_commands (c : Command) (code : ResultCode) (data : List Byte) : (p.answer c code data).link.commands = p.link.commands := by simp [Part.answer]
@[simp] theorem Part.answer_link_held (c : Command) (code : ResultCode) (data : List Byte) : (p.answer c code data).link.held = p.link.held := by simp [Part.answer]
@[simp] theorem Part.answer_status_flags (c : Command) (code : ResultCode) (data : List Byte) : (p.answer c code data).status.flags = p.status.flags := by simp [Part.answer]
@[simp] theorem Part.answer_status_enables (c : Command) (code : ResultCode) (data : List Byte) : (p.answer c code data).status.enables = p.status.enables := by simp [Part.answer]
@[simp] theorem Part.answer_status_global (c : Command) (code : ResultCode) (data : List Byte) : (p.answer c code data).status.global = p.status.global := by simp [Part.answer]
@[simp] theorem Part.answer_engine_inHand (c : Command) (code : ResultCode) (data : List Byte) : (p.answer c code data).engine.inHand = p.engine.inHand := by simp [Part.answer]
@[simp] theorem Part.answer_engine_queue (c : Command) (code : ResultCode) (data : List Byte) : (p.answer c code data).engine.queue = p.engine.queue := by simp [Part.answer]
@[simp] theorem Part.answer_engine_lastERef (c : Command) (code : ResultCode) (data : List Byte) : (p.answer c code data).engine.lastERef = p.engine.lastERef := by simp [Part.answer]
@[simp] theorem Part.answer_engine_dark (c : Command) (code : ResultCode) (data : List Byte) : (p.answer c code data).engine.dark = p.engine.dark := by simp [Part.answer]
@[simp] theorem Part.answer_engine_skipped (c : Command) (code : ResultCode) (data : List Byte) : (p.answer c code data).engine.skipped = p.engine.skipped := by simp [Part.answer]

/-! ### raise -/

@[simp] theorem Part.raise_cadence (f : Flag) : (p.raise f).cadence = p.cadence := by unfold Part.raise; split <;> [rfl; split] <;> simp
@[simp] theorem Part.raise_gen (f : Flag) : (p.raise f).gen = p.gen := by unfold Part.raise; split <;> [rfl; split] <;> simp
@[simp] theorem Part.raise_ticks (f : Flag) : (p.raise f).ticks = p.ticks := by unfold Part.raise; split <;> [rfl; split] <;> simp
@[simp] theorem Part.raise_trig (f : Flag) : (p.raise f).trig = p.trig := by unfold Part.raise; split <;> [rfl; split] <;> simp
@[simp] theorem Part.raise_fire (f : Flag) : (p.raise f).fire = p.fire := by unfold Part.raise; split <;> [rfl; split] <;> simp
@[simp] theorem Part.raise_bucket (f : Flag) : (p.raise f).bucket = p.bucket := by unfold Part.raise; split <;> [rfl; split] <;> simp
@[simp] theorem Part.raise_overEnergy (f : Flag) : (p.raise f).overEnergy = p.overEnergy := by unfold Part.raise; split <;> [rfl; split] <;> simp
@[simp] theorem Part.raise_stopped (f : Flag) : (p.raise f).stopped = p.stopped := by unfold Part.raise; split <;> [rfl; split] <;> simp
@[simp] theorem Part.raise_pendingCharge (f : Flag) : (p.raise f).pendingCharge = p.pendingCharge := by unfold Part.raise; split <;> [rfl; split] <;> simp
@[simp] theorem Part.raise_interlockOpen (f : Flag) : (p.raise f).interlockOpen = p.interlockOpen := by unfold Part.raise; split <;> [rfl; split] <;> simp
@[simp] theorem Part.raise_head (f : Flag) : (p.raise f).head = p.head := by unfold Part.raise; split <;> [rfl; split] <;> simp
@[simp] theorem Part.raise_headTable (f : Flag) : (p.raise f).headTable = p.headTable := by unfold Part.raise; split <;> [rfl; split] <;> simp
@[simp] theorem Part.raise_campTable (f : Flag) : (p.raise f).campTable = p.campTable := by unfold Part.raise; split <;> [rfl; split] <;> simp
@[simp] theorem Part.raise_runs (f : Flag) : (p.raise f).runs = p.runs := by unfold Part.raise; split <;> [rfl; split] <;> simp
@[simp] theorem Part.raise_arb (f : Flag) : (p.raise f).arb = p.arb := by unfold Part.raise; split <;> [rfl; split] <;> simp
@[simp] theorem Part.raise_shot (f : Flag) : (p.raise f).shot = p.shot := by unfold Part.raise; split <;> [rfl; split] <;> simp
@[simp] theorem Part.raise_port (f : Flag) : (p.raise f).port = p.port := by unfold Part.raise; split <;> [rfl; split] <;> simp
@[simp] theorem Part.raise_gates (f : Flag) : (p.raise f).gates = p.gates := by unfold Part.raise; split <;> [rfl; split] <;> simp
@[simp] theorem Part.raise_banks (f : Flag) : (p.raise f).banks = p.banks := by unfold Part.raise; split <;> [rfl; split] <;> simp
@[simp] theorem Part.raise_corr (f : Flag) : (p.raise f).corr = p.corr := by unfold Part.raise; split <;> [rfl; split] <;> simp
@[simp] theorem Part.raise_thresh (f : Flag) : (p.raise f).thresh = p.thresh := by unfold Part.raise; split <;> [rfl; split] <;> simp
@[simp] theorem Part.raise_finder (f : Flag) : (p.raise f).finder = p.finder := by unfold Part.raise; split <;> [rfl; split] <;> simp
@[simp] theorem Part.raise_tracker (f : Flag) : (p.raise f).tracker = p.tracker := by unfold Part.raise; split <;> [rfl; split] <;> simp
@[simp] theorem Part.raise_sky (f : Flag) : (p.raise f).sky = p.sky := by unfold Part.raise; split <;> [rfl; split] <;> simp
@[simp] theorem Part.raise_boot (f : Flag) : (p.raise f).boot = p.boot := by unfold Part.raise; split <;> [rfl; split] <;> simp
@[simp] theorem Part.raise_loaded (f : Flag) : (p.raise f).loaded = p.loaded := by unfold Part.raise; split <;> [rfl; split] <;> simp
@[simp] theorem Part.raise_store (f : Flag) : (p.raise f).store = p.store := by unfold Part.raise; split <;> [rfl; split] <;> simp
@[simp] theorem Part.raise_free (f : Flag) : (p.raise f).free = p.free := by unfold Part.raise; split <;> [rfl; split] <;> simp
@[simp] theorem Part.raise_link_rate (f : Flag) : (p.raise f).link.rate = p.link.rate := by unfold Part.raise; split <;> [rfl; split] <;> simp
@[simp] theorem Part.raise_link_rx (f : Flag) : (p.raise f).link.rx = p.link.rx := by unfold Part.raise; split <;> [rfl; split] <;> simp
@[simp] theorem Part.raise_link_lastError (f : Flag) : (p.raise f).link.lastError = p.link.lastError := by unfold Part.raise; split <;> [rfl; split] <;> simp
@[simp] theorem Part.raise_link_commands (f : Flag) : (p.raise f).link.commands = p.link.commands := by unfold Part.raise; split <;> [rfl; split] <;> simp
@[simp] theorem Part.raise_link_held (f : Flag) : (p.raise f).link.held = p.link.held := by unfold Part.raise; split <;> [rfl; split] <;> simp
@[simp] theorem Part.raise_status_enables (f : Flag) : (p.raise f).status.enables = p.status.enables := by unfold Part.raise; split <;> [rfl; split] <;> simp
@[simp] theorem Part.raise_status_global (f : Flag) : (p.raise f).status.global = p.status.global := by unfold Part.raise; split <;> [rfl; split] <;> simp
@[simp] theorem Part.raise_engine_inHand (f : Flag) : (p.raise f).engine.inHand = p.engine.inHand := by unfold Part.raise; split <;> [rfl; split] <;> simp
@[simp] theorem Part.raise_engine_queue (f : Flag) : (p.raise f).engine.queue = p.engine.queue := by unfold Part.raise; split <;> [rfl; split] <;> simp
@[simp] theorem Part.raise_engine_lastERef (f : Flag) : (p.raise f).engine.lastERef = p.engine.lastERef := by unfold Part.raise; split <;> [rfl; split] <;> simp
@[simp] theorem Part.raise_engine_dark (f : Flag) : (p.raise f).engine.dark = p.engine.dark := by unfold Part.raise; split <;> [rfl; split] <;> simp
@[simp] theorem Part.raise_engine_skipped (f : Flag) : (p.raise f).engine.skipped = p.engine.skipped := by unfold Part.raise; split <;> [rfl; split] <;> simp

end Sys2Proof.Machine
end

