-- ==== Sys2Proof/Laws/Flags.lean ====
section
/-! SUPPORT. What raising a flag, following the cause set and placing a reply do: the flag is set afterwards, the notice joins
the pending set or begins, the reply joins its queue or begins. -/

namespace Sys2Proof.Machine

/-! ### Masks -/

theorem Flag.bit_lt (f : Flag) : f.bit < 16 := by cases f <;> decide

/-- The mask of a flag has its bit and no other. -/
theorem Flag.mask_getLsbD (f : Flag) (i : Nat) : f.mask.getLsbD i = decide (i = f.bit) := by
  have := f.bit_lt
  simp only [Flag.mask, BitVec.getLsbD_shiftLeft, BitVec.getLsbD_one]
  by_cases h : i = f.bit
  · subst h; simp [this]
  · simp [h]; omega

/-- A flag is set exactly when its bit is. -/
theorem Flag.and_mask_ne_zero (m : BitVec 16) (f : Flag) : m &&& f.mask ≠ 0 ↔ m.getLsbD f.bit = true := by
  constructor
  · intro h
    by_contra hb
    apply h
    apply BitVec.eq_of_getLsbD_eq
    intro i hi
    rw [BitVec.getLsbD_and, Flag.mask_getLsbD]
    by_cases hi' : i = f.bit
    · subst hi'; simpa using hb
    · simp [hi']
  · intro h hz
    have hb : (m &&& f.mask).getLsbD f.bit = false := by rw [hz]; simp
    simp [BitVec.getLsbD_and, Flag.mask_getLsbD, h] at hb

theorem Flag.or_mask_ne_zero (m : BitVec 16) (f : Flag) : m ||| f.mask ≠ 0 := by
  intro h
  have hz : (m ||| f.mask).getLsbD f.bit = false := by rw [h]; simp
  simp [BitVec.getLsbD_or, Flag.mask_getLsbD] at hz

/-- Setting a flag that is set changes no flag. -/
theorem Flag.or_mask_of_set {m : BitVec 16} {f : Flag} (h : m.getLsbD f.bit = true) : m ||| f.mask = m := by
  apply BitVec.eq_of_getLsbD_eq
  intro i _
  rw [BitVec.getLsbD_or, Flag.mask_getLsbD]
  by_cases hi' : i = f.bit
  · subst hi'; simp [h]
  · simp [hi']

theorem Status.has_iff (s : Status) (f : Flag) : s.has f = true ↔ s.flags.getLsbD f.bit = true := by
  simp only [Status.has, decide_eq_true_eq]
  exact Flag.and_mask_ne_zero _ _

theorem Status.noticed_iff (s : Status) (f : Flag) :
    s.noticed f = true ↔ s.global = true ∧ s.enables.getLsbD f.bit = true := by
  simp only [Status.noticed, Bool.and_eq_true, decide_eq_true_eq]
  rw [Flag.and_mask_ne_zero]

/-! ### Beginning a frame -/

/-- A frame is on the wire: nothing begins (R153). -/
theorem Part.kick_sending (p : Part) {f : OutFrame} (h : p.link.sending = some f) : p.kick = p := by
  simp [Part.kick, h]

/-- An IDLE scheduler begins a frame (R153). -/
theorem Part.kick_idle (p : Part) (h : p.link.sending = none) : p.kick = p.beginFrame := by
  simp [Part.kick, h]

/-- The flags and the slot's owner never see a frame begin. -/
theorem Part.kick_partState (p : Part) : p.kick.partState = p.partState := by simp [Part.partState]

/-- A reply placed while a frame is being sent waits at the tail of the REPLY queue (R154). -/
theorem Part.placeReply_sending (p : Part) (r : Reply) {f : OutFrame} (h : p.link.sending = some f) :
    p.placeReply r = { p with link := { p.link with replies := p.link.replies ++ [r] } } := by
  unfold Part.placeReply
  exact Part.kick_sending _ (f := f) (by simpa using h)

/-- A reply placed at an IDLE scheduler whose REPLY queue is empty begins at once (R153). -/
theorem Part.placeReply_idle (p : Part) (r : Reply) (h : p.link.sending = none) (hq : p.link.replies = []) :
    p.placeReply r = { p with link := { p.link with sending := some r.frame } } := by
  unfold Part.placeReply
  rw [Part.kick_idle _ (by simpa using h)]
  simp [Part.beginFrame, hq]

/-! ### Raising a flag -/

theorem Part.raise_set (p : Part) (f : Flag) (h : p.status.has f = true) : p.raise f = p := by
  simp [Part.raise, h]

/-- Whatever the enables say, the flag is set afterwards and the others are as they were (R155). -/
@[simp] theorem Part.raise_status_flags (p : Part) (f : Flag) : (p.raise f).status.flags = p.status.flags ||| f.mask := by
  unfold Part.raise
  split
  · rename_i h
    exact (Flag.or_mask_of_set ((p.status.has_iff f).mp h)).symm
  · split <;> simp

/-! ### The cause set -/

/-- Following the cause set changes what raising LASER_BLOCKED changes, and only when the set became non-empty (R7). -/
theorem Part.causeEdge_eq (before now : Part) :
    Part.causeEdge before now = now ∨
      (before.permitted = true ∧ now.permitted = false ∧ Part.causeEdge before now = now.raise .laserBlocked) := by
  unfold Part.causeEdge
  cases hb : before.permitted <;> cases hn : now.permitted <;> simp

/-- The laser stays as permitted as it was while a flag is raised. -/
@[simp] theorem Part.raise_permitted (p : Part) (f : Flag) : (p.raise f).permitted = p.permitted := by
  simp [Part.permitted, Part.headCause, Part.selectedRow]

@[simp] theorem Part.raise_causes (p : Part) (f : Flag) : (p.raise f).causes = p.causes := by
  simp [Part.causes, Part.headCause, Part.selectedRow]

@[simp] theorem Part.raise_selectedRow (p : Part) (f : Flag) : (p.raise f).selectedRow = p.selectedRow := by
  simp [Part.selectedRow]

@[simp] theorem Part.raise_partState (p : Part) (f : Flag) : (p.raise f).partState = p.partState := by
  simp [Part.partState]

end Sys2Proof.Machine
end

