-- ==== Sys2Proof/Laws/Ops.lean ====
section
/-! SUPPORT. What each shared operation can do, said once: rounding, tables by index, banks, the end of a shot. -/

namespace Sys2Proof.Machine

/-! ### Tables by index -/

@[simp] theorem look_tab {α : Type} (n : Nat) (f : Nat → α) (i : Nat) (d : α) :
    look (tab n f) i d = if i < n then f i else d := by
  unfold look tab
  by_cases h : i < n <;> simp [h]

/-- Entries written as a run are read back from their places, and every other entry stays (R150). -/
theorem look_putRun {α : Type} {n : Nat} (xs : List α) (v : Vector α n) (start i : Nat) (d : α)
    (h : start + xs.length ≤ n) :
    look (putRun v start xs) i d = if start ≤ i ∧ i < start + xs.length then xs.getD (i - start) d else look v i d := by
  induction xs generalizing v start with
  | nil => simp only [putRun, List.length_nil]; rw [if_neg (by omega)]
  | cons x xs ih =>
    simp only [List.length_cons] at h
    rw [putRun, ih _ _ (by omega)]
    simp only [List.length_cons]
    by_cases h1 : i = start
    · subst h1
      rw [if_neg (by omega), if_pos (by omega)]
      have : i < n := by omega
      simp [look, this]
    · have hl : look (v.setIfInBounds start x) i d = look v i d := by
        simp only [look]
        rw [Vector.getElem?_setIfInBounds]
        simp [Ne.symm h1]
      rw [hl]
      by_cases h2 : start + 1 ≤ i ∧ i < start + 1 + xs.length
      · rw [if_pos h2, if_pos (by omega)]
        obtain ⟨j, rfl⟩ : ∃ j, i = start + 1 + j := ⟨i - (start + 1), by omega⟩
        rw [show start + 1 + j - start = j + 1 by omega, show start + 1 + j - (start + 1) = j by omega]
        simp
      · rw [if_neg h2, if_neg (by omega)]

/-! ### Rounding -/

/-- The magnitude of a rounded quotient (R79). -/
theorem roundDiv_natAbs (a : Int) (b : Nat) : (roundDiv a b).natAbs = (2 * a.natAbs + b) / (2 * b) := by
  unfold roundDiv
  split <;> simp only [Int.natAbs_neg, Int.natAbs_natCast]

/-- Rounding is symmetric (R79). -/
theorem roundDiv_neg (a : Int) (b : Nat) (h : a ≠ 0) : roundDiv (-a) b = -roundDiv a b := by
  unfold roundDiv
  simp only [Int.natAbs_neg]
  by_cases ha : a < 0
  · rw [if_neg (by omega), if_pos ha]; simp
  · rw [if_pos (by omega), if_neg ha]

/-- A rounded quotient has the sign of its numerator (R79). -/
theorem roundDiv_nonneg {a : Int} (b : Nat) (h : 0 ≤ a) : 0 ≤ roundDiv a b := by
  unfold roundDiv
  rw [if_neg (by omega)]
  exact Int.natCast_nonneg _

/-! ### Banks -/

theorem bankOf_ownerOf (b : Fin 8) : bankOf (ownerOf b) (decide (b.val % 2 = 1)) = b := by
  revert b; decide

theorem ownerOf_bankOf (k : Fin 4) (odd : Bool) : ownerOf (bankOf k odd) = k := by
  revert k odd; decide

theorem bankOf_inj {k k' : Fin 4} {o o' : Bool} (h : bankOf k o = bankOf k' o') : k = k' ∧ o = o' := by
  revert k k' o o'; decide

/-- A bank found by freeSide is FREE (R24). -/
theorem Part.freeSide_free {p : Part} {k : Fin 4} {odd : Bool} (h : p.freeSide k = some odd) :
    p.banks[bankOf k odd].state = .free := by
  unfold Part.freeSide at h
  split at h
  · cases h; assumption
  · split at h
    · cases h; assumption
    · cases h

/-! ### The end of a shot -/

/-- What the Emission Monitor leaves of a charge (R9): nothing pends, and the level has risen by E or the charge. -/
theorem Part.chargeShot_bucket (p : Part) (e : Option Nat) :
    (p.chargeShot e).bucket =
      match p.pendingCharge with
      | none => p.bucket
      | some charge => min (p.bucket + e.getD charge) Config.bucketMax := by
  unfold Part.chargeShot
  split
  · simp [*]
  · simp only [*]
    split
    · rcases Part.causeEdge_eq { p.pour _ with pendingCharge := none } _ with h | ⟨-, -, h⟩ <;> rw [h] <;> simp [Part.pour]
    · rfl

@[simp] theorem Part.chargeShot_pendingCharge (p : Part) (e : Option Nat) : (p.chargeShot e).pendingCharge = none := by
  unfold Part.chargeShot
  split
  · assumption
  · simp only []
    split
    · rcases Part.causeEdge_eq { p.pour _ with pendingCharge := none } _ with h | ⟨-, -, h⟩ <;> rw [h] <;> simp
    · rfl

/-- What the Emission Monitor keeps at a shot end: everything but the bucket, the charge, the OVERENERGY latch and what
raising a flag touches (R9, R10). -/
theorem Part.chargeShot_keeps (p : Part) (e : Option Nat) :
    (p.chargeShot e).cadence = p.cadence ∧
    (p.chargeShot e).gen = p.gen ∧
    (p.chargeShot e).ticks = p.ticks ∧
    (p.chargeShot e).trig = p.trig ∧
    (p.chargeShot e).fire = p.fire ∧
    (p.chargeShot e).interlockOpen = p.interlockOpen ∧
    (p.chargeShot e).head = p.head ∧
    (p.chargeShot e).headTable = p.headTable ∧
    (p.chargeShot e).campTable = p.campTable ∧
    (p.chargeShot e).runs = p.runs ∧
    (p.chargeShot e).arb = p.arb ∧
    (p.chargeShot e).shot = p.shot ∧
    (p.chargeShot e).port = p.port ∧
    (p.chargeShot e).gates = p.gates ∧
    (p.chargeShot e).banks = p.banks ∧
    (p.chargeShot e).corr = p.corr ∧
    (p.chargeShot e).thresh = p.thresh ∧
    (p.chargeShot e).finder = p.finder ∧
    (p.chargeShot e).tracker = p.tracker ∧
    (p.chargeShot e).sky = p.sky ∧
    (p.chargeShot e).boot = p.boot ∧
    (p.chargeShot e).loaded = p.loaded ∧
    (p.chargeShot e).store = p.store ∧
    (p.chargeShot e).free = p.free ∧
    (p.chargeShot e).stopped = p.stopped ∧
    (p.chargeShot e).link.held = p.link.held ∧
    (p.chargeShot e).link.commands = p.link.commands ∧
    (p.chargeShot e).link.rx = p.link.rx ∧
    (p.chargeShot e).link.rate = p.link.rate ∧
    (p.chargeShot e).link.lastError = p.link.lastError ∧
    (p.chargeShot e).engine.inHand = p.engine.inHand ∧
    (p.chargeShot e).engine.queue = p.engine.queue ∧
    (p.chargeShot e).engine.lastERef = p.engine.lastERef ∧
    (p.chargeShot e).engine.dark = p.engine.dark ∧
    (p.chargeShot e).engine.skipped = p.engine.skipped ∧
    (p.chargeShot e).status.enables = p.status.enables ∧
    (p.chargeShot e).status.global = p.status.global := by
  unfold Part.chargeShot
  split
  · simp
  · simp only []
    split
    · rcases Part.causeEdge_eq { p.pour _ with pendingCharge := none } _ with h | ⟨-, -, h⟩ <;> rw [h] <;> simp [Part.pour]
    · simp [Part.pour]

end Sys2Proof.Machine
end

