-- ==== Sys2Proof/Laws/CommandUnit.lean ====
section
/-! SUPPORT. The Command Unit: what a delivered command comes to, in the three cases of a free unit, a busy unit and a full
queue; and one step of the machine. -/

namespace Sys2Proof.Machine

/-! ### Delivering a command -/

theorem Part.takesAtOnce_iff (p : Part) :
    p.takesAtOnce = true ↔ p.link.held = none ∧ p.link.replies.length < 4 ∧ p.link.commands = [] := by
  show _ ↔ p.link.held = none ∧ p.link.replies.length < maxReplies ∧ p.link.commands = []
  simp only [Part.takesAtOnce, Link.unitFree, Bool.and_eq_true, Option.isNone_iff_eq_none, decide_eq_true_eq, and_assoc]

/-- A free unit with nothing before it takes the command in the event that completes its frame (R145). -/
theorem Part.enqueue_free {p : Part} (h : p.takesAtOnce = true) (c : Command) : p.enqueue c = p.perform c := by
  obtain ⟨hh, hr, hc⟩ := p.takesAtOnce_iff.mp h
  have hp : { p with link := { p.link with commands := [] } } = p := by rw [← hc]
  have hl : ({ p.link with commands := ([] : List Command) ++ [c] } : Link).unitFree = true := by
    simp [Link.unitFree, hh, hr, maxReplies]
  unfold Part.enqueue Part.takeCommands
  simp only [hc, List.length_nil, maxCommands, Nat.zero_lt_succ, if_true, List.nil_append, List.length_singleton,
    Part.drain]
  rw [if_pos (by simpa using hl)]
  simp only [hp]

/-- A busy unit leaves the command waiting (R144, R145). -/
theorem Part.enqueue_busy {p : Part} (h : p.link.unitFree = false) (hr : p.link.commands.length < 8) (c : Command) :
    p.enqueue c = { p with link := { p.link with commands := p.link.commands ++ [c] } } := by
  have hl : ({ p.link with commands := p.link.commands ++ [c] } : Link).unitFree = false := h
  unfold Part.enqueue Part.takeCommands
  rw [if_pos (by simpa [maxCommands] using hr)]
  cases hq : p.link.commands ++ [c] with
  | nil => simp at hq
  | cons d ds =>
    simp only [List.length_cons, Part.drain]
    rw [hq] at hl
    rw [if_neg (by simp [hl])]

/-- A full queue drops the command (R144). -/
theorem Part.enqueue_full {p : Part} (h : 8 ≤ p.link.commands.length) (c : Command) : p.enqueue c = p.raise .cmdDropped := by
  unfold Part.enqueue
  rw [if_neg (by simpa [maxCommands] using h)]

/-- A command row at a free unit: the command is carried out. -/
theorem deliver_free {s : State} (h : s.takesAtOnce = true) {c : Command} (hk : isOutbound c.kind = false) :
    deliver c s = .next { s with toPart := s.toPart.perform c } := by
  simp only [deliver, Part.acceptFrame, hk]
  rw [← Part.enqueue_free h c]
  rfl

/-- A command past checks 1 to 3 of R146 is carried out by its owner. -/
theorem Part.perform_of {p : Part} {c : Command} {k : CommandKind} (hk : commandOfKind c.kind = some k)
    (hr : p.partState = .ready ∨ takenInLoading k = true)
    (hl : fixedLength k = none ∨ fixedLength k = some c.payload.length) : p.perform c = p.carryOut c k := by
  unfold Part.perform Part.judgeCommand
  simp only [hk]
  rw [if_neg (by rcases hr with h | h <;> simp [h])]
  rcases hl with h | h <;> simp [h]

theorem Part.partState_ready {p : Part} (h : p.boot = .ready) : p.partState = .ready := by
  simp [Part.partState, h]

/-- The command of a row at a free unit, past its first three checks. -/
theorem deliver_carryOut {s : State} (h : s.takesAtOnce = true) {c : Command} {k : CommandKind}
    (hk : commandOfKind c.kind = some k) (ho : isOutbound c.kind = false)
    (hr : s.partState = .ready ∨ takenInLoading k = true)
    (hl : fixedLength k = none ∨ fixedLength k = some c.payload.length) :
    deliver c s = .next { s with toPart := s.toPart.carryOut c k } := by
  rw [deliver_free h ho, Part.perform_of hk hr hl]

/-! ### One step -/

/-- The command at the front of the queue is run with the queue's rest. -/
theorem step_cons (c : Instr) (rest : List Instr) (s : State) :
    step { s with pending := c :: rest } = exec c { s with pending := rest } := rfl

/-- An empty queue idles. -/
theorem step_nil (s : State) (h : s.pending = []) : step s = .next s := by simp [step, h]

end Sys2Proof.Machine
end

