-- ==== Sys2Proof/Laws/LineCode.lean ====
section
/-! SUPPORT. The character format of the station link: what the receiver makes of a character, of an idle wire and of a wire
held at space. -/

namespace Sys2Proof.Machine

@[simp] theorem characterBits_length (b : Byte) : (characterBits b).length = Config.bitsPerByte := by
  simp [characterBits, dataBits, Config.bitsPerByte]

/-- The data bits of a byte, read back, are that byte. -/
theorem byteOfBits_dataBits (b : Byte) : byteOfBits (dataBits b) = b := by
  revert b; decide +kernel

/-- An idle wire gives no byte. -/
@[simp] theorem receiveFrom_idle_mark (n : Nat) (rest : List Level) :
    receiveFrom .idle (List.replicate n mark ++ rest) = receiveFrom .idle rest := by
  induction n with
  | zero => rfl
  | succ n ih => simpa [List.replicate_succ, receiveFrom, CharRx.sample] using ih

/-- A start bit, eight data bits and a stop bit give one byte, and leave the receiver idle. -/
theorem receiveFrom_character (bits rest : List Level) (stop : Level) (h : bits.length = 8) :
    receiveFrom .idle (space :: (bits ++ stop :: rest)) = lineByteOf bits stop :: receiveFrom .idle rest := by
  match bits, h with
  | [_, _, _, _, _, _, _, _], _ => simp [receiveFrom, CharRx.sample, space, mark]

/-- The character of a byte gives that byte. -/
@[simp] theorem receiveFrom_characterBits (b : Byte) (rest : List Level) :
    receiveFrom .idle (characterBits b ++ rest) = .good b :: receiveFrom .idle rest := by
  have h := receiveFrom_character (dataBits b) rest mark (by simp [dataBits])
  simpa [characterBits, lineByteOf, byteOfBits_dataBits] using h

/-- A wire held at space gives one framing error for every byte time. -/
theorem receiveFrom_held (n : Nat) (rest : List Level) :
    receiveFrom .idle (List.replicate (Config.bitsPerByte * n) space ++ rest) =
      List.replicate n .framingError ++ receiveFrom .idle rest := by
  induction n with
  | zero => rfl
  | succ n ih =>
    have h := receiveFrom_character (List.replicate 8 space) (List.replicate (Config.bitsPerByte * n) space ++ rest) space rfl
    rw [ih] at h
    simpa [Config.bitsPerByte, Nat.mul_add, List.replicate_succ, List.replicate_add, lineByteOf, space, mark,
      List.append_assoc, Nat.add_comm] using h

end Sys2Proof.Machine
end

