-- ==== Sys2Proof/Laws/Memory.lean ====
section
/-! SUPPORT. The cells of the serial store: every operation keeps the canonical form, a read after a write gives the byte
written, and every other byte stays. -/

namespace Sys2Proof.Machine

/-! ### The canonical form -/

theorem Memory.wfFrom_mono {lo lo' : Nat} {m : List Host.Cell} (h : lo' ≤ lo) (w : Memory.wfFrom lo m = true) :
    Memory.wfFrom lo' m = true := by
  cases m with
  | nil => rfl
  | cons c rest =>
    simp only [Memory.wfFrom, Bool.and_eq_true, decide_eq_true_eq] at w ⊢
    exact ⟨⟨by omega, w.1.2⟩, w.2⟩

/-- A cell put at or above the lower end keeps the form. -/
theorem Memory.putCell_wfFrom {m : List Host.Cell} {lo a : Nat} (v : Byte) (h : lo ≤ a) (w : Memory.wfFrom lo m = true) :
    Memory.wfFrom lo (putCell m a v) = true := by
  induction m generalizing lo with
  | nil =>
    by_cases hv : v = unlistedByte <;> simp [putCell, hv, Memory.wfFrom, h]
  | cons c rest ih =>
    obtain ⟨b, x⟩ := c
    simp only [Memory.wfFrom, Bool.and_eq_true, decide_eq_true_eq] at w
    obtain ⟨⟨hb, hx⟩, hr⟩ := w
    simp only [putCell]
    split
    · split
      · simp [Memory.wfFrom, hb, hx, hr]
      · simp [Memory.wfFrom, *]
    · split
      · split
        · exact Memory.wfFrom_mono (by omega) hr
        · subst_vars; simp [Memory.wfFrom, *]
      · have := ih (lo := b + 1) (by omega) hr
        simp [Memory.wfFrom, hb, hx, this]

theorem Memory.putCell_wf {m : List Host.Cell} (a : Nat) (v : Byte) (w : Memory.wf m = true) :
    Memory.wf (putCell m a v) = true :=
  Memory.putCell_wfFrom v (Nat.zero_le a) w

theorem Memory.programCells_wf {ds : List Byte} {m : List Host.Cell} {a : Nat} (w : Memory.wf m = true) :
    Memory.wf (programCells m a ds) = true := by
  induction ds generalizing m a with
  | nil => exact w
  | cons d ds ih => exact ih (Memory.putCell_wf _ _ w)

theorem Memory.cutProgramCells_wf {ds : List Byte} {m : List Host.Cell} {n a : Nat} (w : Memory.wf m = true) :
    Memory.wf (cutProgramCells m n a ds) = true := by
  induction ds generalizing m n a with
  | nil => exact w
  | cons d ds ih =>
    rw [cutProgramCells]
    split
    · exact ih w
    · exact ih (Memory.putCell_wf _ _ w)

/-- Taking cells away keeps the form. -/
theorem Memory.filter_wfFrom {m : List Host.Cell} {lo : Nat} (f : Host.Cell → Bool) (w : Memory.wfFrom lo m = true) :
    Memory.wfFrom lo (m.filter f) = true := by
  induction m generalizing lo with
  | nil => rfl
  | cons c rest ih =>
    obtain ⟨b, x⟩ := c
    simp only [Memory.wfFrom, Bool.and_eq_true, decide_eq_true_eq] at w
    simp only [List.filter_cons]
    split
    · simp [Memory.wfFrom, w.1.1, w.1.2, ih w.2]
    · exact Memory.wfFrom_mono (by omega) (ih w.2)

theorem Memory.eraseCells_wf {m : List Host.Cell} (a : Nat) (w : Memory.wf m = true) : Memory.wf (eraseCells m a) = true :=
  Memory.filter_wfFrom _ w

theorem Memory.cutEraseCells_wf {m : List Host.Cell} (n a : Nat) (w : Memory.wf m = true) :
    Memory.wf (cutEraseCells m n a) = true :=
  Memory.filter_wfFrom _ w

/-- The store of the reset state is in canonical form. -/
theorem Memory.reset_wf : Memory.wf State.reset.store.cells = true := rfl

/-! ### Reading -/

/-- Below the first cell every byte is unlisted. -/
theorem Memory.cellAt_below {m : List Host.Cell} {lo a : Nat} (h : a < lo) (w : Memory.wfFrom lo m = true) :
    cellAt m a = unlistedByte := by
  induction m generalizing lo with
  | nil => rfl
  | cons c rest ih =>
    obtain ⟨b, x⟩ := c
    simp only [Memory.wfFrom, Bool.and_eq_true, decide_eq_true_eq] at w
    rw [cellAt, if_neg (by omega)]
    exact ih (by omega) w.2

/-- A read after a write to the same address gives the byte written. -/
theorem Memory.cellAt_putCell_same {m : List Host.Cell} {lo : Nat} (a : Nat) (v : Byte) (w : Memory.wfFrom lo m = true) :
    cellAt (putCell m a v) a = v := by
  induction m generalizing lo with
  | nil => by_cases hv : v = unlistedByte <;> simp [putCell, cellAt, hv]
  | cons c rest ih =>
    obtain ⟨b, x⟩ := c
    simp only [Memory.wfFrom, Bool.and_eq_true, decide_eq_true_eq] at w
    simp only [putCell]
    split
    · rename_i hab
      split
      · rename_i hv
        rw [cellAt, if_neg (by omega), Memory.cellAt_below (by omega) w.2, hv]
      · simp [cellAt]
    · split
      · rename_i hab
        split
        · rename_i hv
          rw [Memory.cellAt_below (by omega) w.2, hv]
        · simp [cellAt]
      · rename_i hne
        rw [cellAt, if_neg hne]
        exact ih w.2

/-- A write leaves every other byte as it was. -/
theorem Memory.cellAt_putCell_other {m : List Host.Cell} {a a' : Nat} (v : Byte) (h : a' ≠ a) :
    cellAt (putCell m a v) a' = cellAt m a' := by
  induction m with
  | nil => by_cases hv : v = unlistedByte <;> simp [putCell, cellAt, hv, h]
  | cons c rest ih =>
    obtain ⟨b, x⟩ := c
    simp only [putCell]
    split
    · split <;> simp [cellAt, h]
    · split
      · rename_i hab
        split <;> simp [cellAt, ← hab, h]
      · simp [cellAt, ih]

/-- Erasing leaves every byte outside the sector as it was. -/
theorem Memory.cellAt_eraseCells_outside {m : List Host.Cell} {addr a : Nat} (h : inSector addr a = false) :
    cellAt (eraseCells m addr) a = cellAt m a := by
  induction m with
  | nil => rfl
  | cons c rest ih =>
    obtain ⟨b, x⟩ := c
    unfold eraseCells at ih ⊢
    simp only [List.filter_cons]
    by_cases hb : inSector addr b = true
    · have : a ≠ b := fun e => by rw [e] at h; simp [h] at hb
      simp [hb, cellAt, this, ih]
    · simp [hb, cellAt, ih]

/-- Erasing leaves 0xFF in every byte of the sector (R161). -/
theorem Memory.cellAt_eraseCells_inside {m : List Host.Cell} {addr a : Nat} (h : inSector addr a = true) :
    cellAt (eraseCells m addr) a = 0xFF := by
  induction m with
  | nil => rfl
  | cons c rest ih =>
    obtain ⟨b, x⟩ := c
    unfold eraseCells at ih ⊢
    simp only [List.filter_cons]
    by_cases hb : inSector addr b = true
    · simp [hb, ih]
    · have : a ≠ b := fun e => by rw [e] at h; simp [h] at hb
      simp [hb, cellAt, this, ih]

end Sys2Proof.Machine
end

