-- ==== Sys2Proof/Laws/SerialStore.lean ====
section
/-! SUPPORT. The serial store at its interface: how many bytes a transaction receives, what a status read shows, what a
completed write or erase leaves. -/

namespace Sys2Proof.Machine

/-- A transaction receives as many bytes as the table of R161 says. -/
theorem Store.reply_length (s : Store) (n : Nat) (t : Transaction) : (s.reply n t).length = t.receives := by
  cases t <;> simp [Store.reply, Transaction.receives, be]

/-- The lowest bit of the status byte is the busy state, which a missing store shows as 1 and a shorted line as 0. -/
theorem Store.statusByte_busy (s : Store) (n : Nat) : (s.statusByte n).getLsbD 0 = s.reportsBusy := by
  unfold Store.statusByte Store.reportsBusy
  split
  · rw [BitVec.getLsbD_append]
    cases s.busy <;> rfl
  · cases s.missing <;> rfl

@[simp] theorem Store.idle_busy (s : Store) : s.idle.busy = false := rfl
@[simp] theorem Store.idle_ident (s : Store) : s.idle.ident = s.ident := rfl
@[simp] theorem Store.idle_cells (s : Store) : s.idle.cells = s.cells := rfl
@[simp] theorem Store.idle_answers (s : Store) : s.idle.answers = s.answers := rfl
@[simp] theorem Store.idle_missing (s : Store) : s.idle.missing = s.missing := rfl

/-- A store is present exactly when its identification is neither all 0x00 nor all 0xFF. -/
theorem Store.answers_iff (s : Store) : s.answers = true ↔ s.ident ≠ 0 ∧ s.ident ≠ 0xFFFFFF := by
  simp only [Store.answers, identAnswers, Bool.and_eq_true, decide_eq_true_eq]

/-- A store is missing exactly when its identification is all 0xFF. -/
theorem Store.missing_iff (s : Store) : s.missing = true ↔ s.ident = 0xFFFFFF := by
  simp only [Store.missing, decide_eq_true_eq]

/-- A missing store is not present. -/
theorem Store.answers_of_missing (s : Store) (h : s.missing = true) : s.answers = false := by
  simp only [Store.missing, decide_eq_true_eq] at h
  simp [Store.answers, identAnswers, h]

/-- Only a missing store goes on reporting busy. -/
@[simp] theorem Store.idle_reportsBusy (s : Store) : s.idle.reportsBusy = s.missing := by
  unfold Store.reportsBusy
  cases hm : s.missing
  · cases s.idle.answers <;> simp [hm]
  · simp [s.answers_of_missing hm, hm]

/-- A store that is not busy answers its identification read with its own bytes. -/
theorem Store.identBytes_idle (s : Store) (n : Nat) (h : s.busy = false) : s.identBytes n = s.ident := by
  simp [Store.identBytes, h]

/-- A completed write leaves a present store not busy with its bytes programmed, and any other as it was. -/
theorem Store.completed_program (s : Store) (addr : Nat) (data : List Byte) :
    s.completed (.pageProgram addr data) =
      { s with busy := false, cells := if s.answers then programCells s.cells addr data else s.cells } := by
  cases h : s.answers <;>
    simp_all [Store.completed, fourSteps, storeSteps, stepTransaction, Store.accept, Store.idle, Store.answers]

/-- A completed erase leaves a present store not busy with its sector erased, and any other as it was. -/
theorem Store.completed_erase (s : Store) (addr : Nat) :
    s.completed (.sectorErase addr) =
      { s with busy := false, cells := if s.answers then eraseCells s.cells addr else s.cells } := by
  cases h : s.answers <;>
    simp_all [Store.completed, fourSteps, storeSteps, stepTransaction, Store.accept, Store.idle, Store.answers]

end Sys2Proof.Machine
end

