-- ==== Sys2Proof/Laws/SymbolCode.lean ====
section
/-! SUPPORT. The line of the sample port: every byte has a valid symbol, when a pair of symbols is a good or a bad word, and
words sent are words delivered. -/

namespace Sys2Proof.Machine

@[simp] theorem LineSymbol.byte?_slipped : LineSymbol.slipped.byte? = none := rfl

/-- Every byte has a valid symbol. -/
@[simp] theorem byte?_symbolOf (b : Byte) : (symbolOf b).byte? = some b := by
  have h := b.isLt
  have hb : (b.setWidth 10).toNat = b.toNat := by simp; omega
  simp only [symbolOf, LineSymbol.byte?, Equiv.apply_symm_apply, hb]
  rw [if_pos (by omega)]
  congr 1
  apply BitVec.eq_of_toNat_eq
  rw [BitVec.toNat_setWidth, hb]
  omega

/-- A pair is a bad word exactly when one of its symbols is a code violation. -/
theorem wordOfSymbols_bad (hi lo : LineSymbol) : wordOfSymbols hi lo = .bad ↔ hi.byte? = none ∨ lo.byte? = none := by
  unfold wordOfSymbols
  cases hi.byte? <;> cases lo.byte? <;> simp

/-- A pair of valid symbols is the good word of their bytes, the high byte first. -/
theorem wordOfSymbols_good (hi lo : LineSymbol) (a b : Byte) (ha : hi.byte? = some a) (hb : lo.byte? = some b) :
    wordOfSymbols hi lo = .good (a ++ b) := by
  simp [wordOfSymbols, ha, hb]

/-- The two bytes of a word, put together again. -/
theorem word_bytes (v : Word16) : (v.extractLsb' 8 8 ++ v.extractLsb' 0 8 : BitVec 16) = v := by
  apply BitVec.eq_of_getLsbD_eq
  intro i hi
  rw [BitVec.getLsbD_append]
  by_cases h : i < 8
  · simp [h]
  · simp [h, show i - 8 < 8 by omega, show 8 + (i - 8) = i by omega]

/-- A word sent is the word delivered. -/
@[simp] theorem deliveredWords_wordSymbols (v : Word16) (rest : List LineSymbol) :
    deliveredWords (wordSymbols v ++ rest) = .good v :: deliveredWords rest := by
  show wordOfSymbols _ _ :: deliveredWords rest = _
  rw [wordOfSymbols_good _ _ _ _ (byte?_symbolOf _) (byte?_symbolOf _), word_bytes]

end Sys2Proof.Machine
end

