-- ==== Sys2Proof/Tests/Slice0.lean ====
section
/-! SUPPORT. Tests of the model. A theorem `test_…` checks one operation or one step against a value of the spec (its worked
sequences and cases, named in the docstrings). A theorem `witness_<Statement>` shows concrete states and operands that meet the
hypotheses of the statement of that name, clause by clause, so that none of them is empty. -/

namespace Sys2Proof.Tests

open Sys2Proof.Machine

set_option Elab.async false

/-! ### Well-formed terms -/

theorem test_wellFormed_payload_fits : (Instr.ping 0 (List.replicate 2098 0)).wellFormed = true := by decide +kernel
theorem test_wellFormed_refuses_long_payload : (Instr.ping 0 (List.replicate 2099 0)).wellFormed = false := by decide +kernel
theorem test_wellFormed_refuses_long_unknown :
    (Instr.unknownKindCommand 0x17 0 (List.replicate 2099 0)).wellFormed = false := by decide +kernel
theorem test_wellFormed_refuses_known_kind : (Instr.unknownKindCommand 0x16 0 []).wellFormed = false := rfl
theorem test_wellFormed_refuses_outbound_kind : (Instr.unknownKindCommand 0x81 0 []).wellFormed = false := rfl
theorem test_wellFormed_unknown_kind : (Instr.unknownKindCommand 0x17 0 []).wellFormed = true := rfl

/-! ### States the tests start from -/

/-- The state after one command or event. -/
def after (i : Instr) (s : State) : State :=
  match exec i s with
  | .next t => t
  | .fault _ => s
  | .refused _ => s

/-- The reply or notice on the wire. -/
def wire (s : State) : Option OutFrame := s.link.sending

/-- The part READY, otherwise as State.reset. -/
def ready : State := { State.reset with boot := .ready }

/-- A frame on the wire, so that replies and notices queue. -/
def busyLine (s : State) : State :=
  { s with link := { s.link with sending := some { kind := 0x81, tag := 0, payload := [0x01, 0x00, 0x01] } } }

/-- HEAD row 3 of the worked sequence of spec/01_firing_the_laser.md. -/
def rowThree : HeadRow := { allowed := true, eRef := 1000, eMax := 1200, cap := 120000, drain := 300 }

/-- The six-bin gate table of spec/04_range_gates_and_accumulation.md. -/
def sixGates : Gates :=
  { State.reset.gates with
    table := putRun State.reset.gates.table 0 [⟨0, 2⟩, ⟨2, 2⟩, ⟨4, 4⟩, ⟨10, 8⟩, ⟨18, 16⟩, ⟨34, 64⟩]
    nb := 6 }

/-- The part that may fire at a level, its generator RUNNING and no campaign running. -/
def armed (level : Nat) : State :=
  { ready with
    interlockOpen := false, head := .verified 3, headTable := ready.headTable.set 3 rowThree, gen := .running 250
    cadence := { slotPeriod := 250, fireWidth := 2, run := true }, bucket := level, gates := sixGates
    port := { lock := .locked 0, rx := .hunt, timer := none, lastEnd := none } }

/-- C0 ACTIVE on bank 0, LIT, with `n` shots to accept. -/
def firing (level n : Nat) : State :=
  { armed level with
    campTable := ready.campTable.set 0 { CampEntry.reset with shots := n }
    runs := ready.runs.set 0 { Run.reset with state := .active false, remaining := n }
    banks := ready.banks.set 0 (Bank.opened CampEntry.reset.settings) }

/-- A lit shot of C0 in flight, tag 1. -/
def shooting (n : Nat) : State := after .periodEnd (firing 118815 n)

/-- Record A of spec/04_range_gates_and_accumulation.md with a tag, its check word left to the test. -/
def wordsOf (tag energy pre : BitVec 16) (range : List (BitVec 16)) : List (Option Word16) :=
  ([0x3C5A, tag, energy, 4096, 64] ++ List.replicate 64 pre ++ range ++ List.replicate (4032 - range.length) 0).map some

def rangeA : List (BitVec 16) :=
  [1020, 1018, 1015, 1013, 1010, 1010, 1010, 1010, 0, 0] ++ List.replicate 8 1006 ++ List.replicate 16 1003
    ++ List.replicate 64 1001

def rangeC : List (BitVec 16) :=
  [1030, 1026, 1021, 1019, 1012, 1012, 1012, 1012, 0, 0] ++ List.replicate 8 1007 ++ List.replicate 16 1004
    ++ List.replicate 6 1002 ++ [16383] ++ List.replicate 57 1002

def recordA (tag : BitVec 16) : Record :=
  { words := wordsOf tag 980 1000 rangeA, sum := 0x1234, corrupt := false, outOfRange := false, bound := .inFlight
    clips := [] }

def recordC : Record :=
  { words := wordsOf 3 1010 999 rangeC, sum := 0x1234, corrupt := false, outOfRange := false, bound := .inFlight
    clips := [40] }

/-- A state with a record before its check word. -/
def atCheck (s : State) (r : Record) : State := { s with port := { s.port with rx := .record r } }

/-- Bank 0 in hand, as LIT inputs say, with the contents of the closed bank of the worked case. -/
def litInputs : LitInputs :=
  { eRef := 1000, eRefHeld := false
    dark := { state := .valid, source := some (2, 5)
              values := putRun (Vector.replicate 512 0) 0 [512, 512, 256, 256, 256, 256] } }

def closedBank : Bank :=
  { Bank.opened CampEntry.reset.settings with
    sums := putRun (Vector.replicate 512 0) 0 [4094, 4068, 8088, 16104, 32112, 143573]
    pre := 127936, esum := 1990, accepted := 2, fired := 3, rejected := 1 }

/-- The engine with bank 0 in hand. -/
def processing (settings : RunSettings) (lit : Option LitInputs) : State :=
  { armed 0 with
    banks := ready.banks.set 0 { closedBank with state := .processing, settings := settings }
    engine := { ready.engine with inHand := some { bank := 0, lit := lit } } }

/-! ### The laser (spec/01_firing_the_laser.md, from reset to a steady firing rate) -/

/-- The 55,528th tick: level 118,815 after the drain, 120,015 exceeds CAP, no shot. -/
theorem test_periodEnd_denied :
    (after .periodEnd (firing 119115 2)).bucket = 118815 ∧ (after .periodEnd (firing 119115 2)).shot = none := by
  decide +kernel

/-- The 55,529th tick: level 118,515 after the drain, the first lit shot. -/
theorem test_periodEnd_fires :
    (shooting 2).bucket = 118515 ∧ (shooting 2).fire = some 2 ∧ (shooting 2).trig = true ∧
    (shooting 2).pendingCharge = some 1200 ∧ (shooting 2).shot.map Shot.expectedTag = some 1 := by decide +kernel

theorem test_trigPulseEnd : (after .trigPulseEnd (shooting 2)).trig = false := by decide +kernel
theorem test_firePulseEnd : (after .firePulseEnd (shooting 2)).fire = none := by decide +kernel

theorem test_interlockChange :
    (after (.interlockChange true) (armed 0)).status.flags = 0x0020 ∧ (armed 0).permitted = true := by decide +kernel

theorem test_conversionComplete :
    (after (.conversionComplete 10000) { ready with head := .measuring }).head = .verified 3 ∧ headOfOhms 1101 = .unreadable ∧
    headOfOhms 470001 = .absent := by decide +kernel

theorem test_presenceChange :
    (after (.presenceChange false) (armed 0)).head = .absent ∧
    (after (.presenceChange false) (armed 0)).status.flags = 0x0024 := by decide +kernel

theorem test_laserStop :
    wire (after (.laserStop 9 []) (armed 0)) = some { kind := 0x81, tag := 9, payload := [0x0D, 0, 0x02] } := by decide +kernel
theorem test_laserRelease :
    wire (after (.laserRelease 9 []) ready) = some { kind := 0x81, tag := 9, payload := [0x0E, 0, 0x0C] } := by decide +kernel
theorem test_measureHead_absent :
    wire (after (.measureHead 9 []) ready) = some { kind := 0x81, tag := 9, payload := [0x0F, 8] } := by decide +kernel
theorem test_measureHead_begins : (after (.measureHead 9 []) (armed 0)).head = .measuring := by decide +kernel

/-! ### Campaigns (spec/02_measurement_campaigns.md) -/

theorem test_start :
    (after (.start 1 [0]) { ready with gates := sixGates }).runs[0].state = .active false ∧
    wire (after (.start 1 [0]) ready) = some { kind := 0x81, tag := 1, payload := [0x08, 6] } := by decide +kernel
theorem test_stop :
    (after (.stop 1 [0]) (shooting 2)).banks[0].state = .free ∧
    (after (.stop 1 [0]) (shooting 2)).shot.map Shot.abandoned = some true := by decide +kernel
theorem test_hold_resume :
    (after (.hold 1 [0]) (firing 0 2)).runs[0].held = true ∧
    (after (.resume 1 [0]) (after (.hold 1 [0]) (firing 0 2))).runs[0].held = false := by decide +kernel
theorem test_readCampaign :
    ((wire (after (.readCampaign 1 [0]) (firing 0 2))).map OutFrame.payload).map (List.take 10) =
      some [0x0C, 0, 1, 0, 0, 2, 1, 0, 0, 0] := by decide +kernel

/-- The rotating list at t1 and t2 of the worked sequence. -/
theorem test_moveToBottom :
    moveToBottom [0, 1, 2, 3] 0 = [1, 2, 3, 0] ∧ moveToBottom [1, 2, 3, 0] 2 = [1, 3, 0, 2] := by decide

/-! ### The sample port and the bank (spec/03_the_sample_port.md, spec/04_range_gates_and_accumulation.md) -/

theorem test_wordEvent_lock :
    (after (.wordEvent (.good 5)) { ready with port := { ready.port with lock := .unlocked 15 } }).port.lock = .locked 0 := by
  decide +kernel

/-- The second accepted shot closes the bank, and an IDLE engine begins it. -/
theorem test_wordEvent_accepts :
    (after (.wordEvent (.good 0x1234)) (atCheck (shooting 1) (recordA 1))).banks[0].state = .processing ∧
    (after (.wordEvent (.good 0x1234)) (atCheck (shooting 1) (recordA 1))).bucket = 119495 := by decide +kernel

theorem test_recordTimeout :
    (after .recordTimeout (shooting 2)).banks[0].rejected = 1 ∧ (after .recordTimeout (shooting 2)).bucket = 119715 ∧
    (after .recordTimeout (shooting 2)).shot = none := by decide +kernel

/-- Bank 0 of the worked sequence after records A and C. -/
theorem test_bank_sums :
    (((Bank.opened CampEntry.reset.settings).add sixGates (recordA 1) .lit 5001).add sixGates recordC .lit 5003).sums.toList.take 7
      = [4094, 4068, 8088, 16104, 32112, 143573, 0] := by decide +kernel

theorem test_bank_counts :
    (fun b : Bank => [b.pre, b.esum, b.accepted, b.clippedShots, b.firstTick, b.lastTick] = [127936, 1990, 2, 1, 5001, 5003]
        ∧ b.clipMap.toList.take 7 = [false, false, false, false, false, true, false])
      (((Bank.opened CampEntry.reset.settings).add sixGates (recordA 1) .lit 5001).add sixGates recordC .lit 5003) := by
  decide +kernel

/-- The table is valid, and with entry 3 at s = 6 it is not. -/
theorem test_gates_valid :
    sixGates.valid = true ∧ ({ sixGates with table := sixGates.table.set 3 ⟨6, 8⟩ } : Gates).valid = false := by decide +kernel

/-! ### Profile arithmetic (spec/05_profile_arithmetic.md, the worked cases) -/

theorem test_roundDiv : [(7, 2), (-7, 2), (5, 4), (-5, 4), (3, 4), (-3, 4)].map (fun x => roundDiv x.1 x.2) =
    [4, -4, 1, -1, 1, -1] := by decide

theorem test_stages :
    stage1 4050000 4 64000000 1000 = 3200 ∧ stage3 1000 1000 950000 3072 = 3234 ∧ stage4 ⟨50000, 6⟩ 3234 = 9869 ∧
    stage3 1000 1000 100000 3072 = 12288 ∧ stage4 ⟨50000, 6⟩ 12288 = 37500 ∧ stage1 3999976 4 63999991 1000 = -2 ∧
    stage4 ⟨65535, 15⟩ 16777216 = 2147483647 := by decide +kernel

theorem test_profileComplete_values :
    closedBank.values sixGates (Vector.replicate 512 ⟨40000, 4⟩) (some litInputs) = [3455, 2434, 1649, 942, 471, 19027] ∧
    closedBank.profileFlags sixGates (Vector.replicate 512 ⟨40000, 4⟩) litInputs = 0 := by decide +kernel

theorem test_profileComplete_frees :
    (after .profileComplete (processing CampEntry.reset.settings (some litInputs))).banks[0].state = .free ∧
    (after .profileComplete (processing CampEntry.reset.settings (some litInputs))).runs[0].completed = 1 := by decide +kernel

/-! ### Layers and tracks (spec/06_finding_layers.md, spec/07_the_track_table_and_the_sky_report.md) -/

/-- The twenty bins of the worked profiles, with β of each bin and the clipped one. -/
def skyBins (betas : List Int) (clip : Option Nat) : List BinView :=
  (List.range 20).map fun i =>
    let s := [0, 4, 8, 12, 16, 24, 32, 40, 56, 72, 88, 104, 120, 136, 152, 184, 216, 280, 344, 408].getD i 0
    let w := [4, 4, 4, 4, 8, 8, 8, 16, 16, 16, 16, 16, 16, 16, 32, 32, 64, 64, 64, 64].getD i 0
    { index := i, base := 5 * s, top := 5 * (s + w), span := 5 * w, beta := betas.getD i 0, clipped := clip = some i
      tc := 20000, th := if i < 18 then 1500 else 0 }

def binsA : List BinView :=
  skyBins [180000, 420000, 650000, 310000, 60000, 1200, 400, 150, -90, 60, -40, 20, 0, -30, 10, -20, 5, -5, 0, 0] none

def binsB : List BinView :=
  skyBins [4200, 3900, 3600, 3100, 2400, 1700, 1300, 900, 600, 700, 1100, 8000, 45000, 160000, 95000, 900, 700, 31000, 24000,
    400] (some 13)

def finderEntry : FinderEntry := { mIn := 2, mOut := 2, fogFloor := 60, ridge := 1000, vvLimit := 30000000 }

theorem test_profile_A :
    findLayers finderEntry binsA =
      { detections := [{ baseBin := 0, base := 0, topBin := none, top := none, peak := 650000, cls := .fog
                         flags := { topSeen := false, clipped := false, belowRidge := true } }]
        sky := .obscured, vv := some 80, vvLimited := false, haze := none, layerLimit := false } := by decide +kernel

theorem test_profile_B :
    findLayers finderEntry binsB =
      { detections := [{ baseBin := 12, base := 600, topBin := some 14, top := some 920, peak := 160000, cls := .cloud
                         flags := { topSeen := true, clipped := true, belowRidge := true } },
                       { baseBin := 17, base := 1400, topBin := none, top := none, peak := 31000, cls := .cloud
                         flags := { topSeen := false, clipped := false, belowRidge := false } }]
        sky := .layers, vv := none, vvLimited := false, haze := some 160, layerLimit := false } := by decide +kernel

def seen (base : Nat) (top : Option Nat) (peak : Int) : Detection :=
  { baseBin := 0, base := base, topBin := none, top := top, peak := peak, cls := .cloud
    flags := { topSeen := top.isSome, clipped := false, belowRidge := decide (base < 1000) } }

def trackerEntry : TrackerEntry := { gate := 200, shift := 1, confirmHits := 2, dropMisses := 2, staleLimit := 3 }

/-- The table after passes 1 to 4 of the worked sequence. -/
def fourPasses : Sky :=
  let y := State.reset.sky
  let y := (y.pass trackerEntry 0 [seen 680 (some 760) 150000]).1
  let y := (y.pass trackerEntry 1 [seen 600 (some 760) 140000, seen 1400 none 31000]).1
  let y := (y.pass trackerEntry 0 [seen 600 (some 680) 160000, seen 760 (some 920) 40000]).1
  (y.pass trackerEntry 0 [seen 920 none 55000]).1

theorem test_passes :
    (sortById fourPasses.tracks).map (fun t => [t.id, t.owner.val, t.base, t.hits, t.misses, t.lastPass]) =
      [[1, 0, 620, 3, 1, 3], [2, 1, 1400, 1, 0, 2], [3, 0, 840, 2, 0, 4]] ∧
    (sortById fourPasses.tracks).map Track.state = [.coasting, .tentative, .confirmed] ∧
    fourPasses.nextId = 4 := by decide +kernel

theorem test_fifth_pass :
    (reportable (fourPasses.pass trackerEntry 1
        [seen 600 (some 680) 120000, seen 920 (some 1080) 50000, seen 1400 none 28000]).1.tracks).map
      (fun t => (t.id, t.base, t.hits, t.lastPass)) = [(1, 610, 4, 5), (3, 880, 3, 5), (2, 1400, 2, 5)] := by decide +kernel

theorem test_trackClear : (after (.trackClear 1 []) { ready with sky := fourPasses }).sky = { fourPasses with tracks := [], nextId := 1 } := by
  decide +kernel
theorem test_readTracks :
    ((wire (after (.readTracks 1 []) { ready with sky := fourPasses })).map OutFrame.payload).map (fun d => (d.length, d.take 8)) =
      some (60, [0x12, 0, 0, 4, 4, 3, 1, 2]) := by decide +kernel

/-! ### The station link and the status unit (spec/08_the_station_link.md) -/

theorem test_crc : crcOf [0x31, 0x32, 0x33, 0x34, 0x35, 0x36, 0x37, 0x38, 0x39] = 0x29B1#16 := by decide +kernel
theorem test_ping :
    wire (after (.ping 0x77 [1, 2]) ready) = some { kind := 0x81, tag := 0x77, payload := [0x01, 0, 1, 1, 2] } := by
  decide +kernel
theorem test_ping_long : wire (after (.ping 1 (List.replicate 33 0)) ready) = some { kind := 0x81, tag := 1, payload := [1, 4] } := by
  decide +kernel
theorem test_readStatus :
    ((wire (after (.readStatus 1 []) ready)).map OutFrame.payload).map (fun d => (d.length, d.take 3)) = some (59, [2, 0, 1]) := by
  decide +kernel
theorem test_clearStatus :
    (after (.clearStatus 1 [0, 2]) { ready with status := { ready.status with flags := 7 } }).status.flags = 5 := by decide +kernel
theorem test_setNotices :
    (after (.setNotices 1 [0xFF, 0x01, 0]) ready).status.enables = 0xFF01 ∧
    (after (.setNotices 1 [0xFF, 0x01, 0]) ready).status.global = false := by decide +kernel
theorem test_warmRestart :
    (after (.warmRestart 1 []) (shooting 2)).port.lastEnd.map ShotEnd.reason = some .restart ∧
    (after (.warmRestart 1 []) (shooting 2)).bucket = 119715 := by decide +kernel
theorem test_loadTable :
    (after (.loadTable 1 [1, 0, 5, 0, 1, 0, 34, 64]) ready).gates.table[5] = ⟨34, 64⟩ ∧
    wire (after (.loadTable 1 [1, 0, 5, 0, 1, 0, 34, 65]) ready) =
      some { kind := 0x81, tag := 1, payload := [0x06, 4, 0, 5] } := by decide +kernel
theorem test_readTable :
    wire (after (.readTable 1 [5, 0, 3, 0, 1]) (armed 0)) =
      some { kind := 0x81, tag := 1, payload := [0x07, 0, 5, 0, 3, 0, 1, 1, 0x03, 0xE8, 0x04, 0xB0, 0x01, 0xD4, 0xC0, 0x01, 0x2C] } := by
  decide +kernel
theorem test_unknownKind :
    wire (after (.unknownKindCommand 0x20 1 []) ready) = some { kind := 0x81, tag := 1, payload := [0x20, 3] } := by
  decide +kernel
theorem test_startWaitEnd : (after .startWaitEnd ready).link.rx = .hunt := by decide +kernel
theorem test_byteEvent : (after (.byteEvent (.good 0xC5)) { ready with link := { ready.link with rx := .hunt } }).link.rx = .length none 0xFFFF := by
  decide +kernel
/-- The marker, 0xC5: a start bit, 1 0 1 0 0 0 1 1, a stop bit. -/
theorem test_character : characterBits 0xC5 = [false, true, false, true, false, false, false, true, true, true] := by decide
/-- Rest, a good byte, and three byte times of a wire held at space. -/
theorem test_receiveFrom :
    receiveFrom .idle ([true, true] ++ characterBits 0xC5 ++ List.replicate 30 false) =
      [.good 0xC5, .framingError, .framingError, .framingError] := by decide
theorem test_gapTimeout :
    (after .gapTimeout { ready with link := { ready.link with rx := .length none 0xFFFF } }).link.lastError = some .gap := by
  decide +kernel
/-- Reply 1 has gone, reply 2 begins, and the waiting command is taken. -/
theorem test_endOfFrame :
    (after .endOfFrame (after (.ping 2 []) (busyLine ready))).link.sending.map OutFrame.tag = some 2 := by decide +kernel

/-! ### The store and start-up (spec/09_the_table_store_and_start_up.md, the worked image) -/

/-- The worked image of three bursts, as cells. -/
def imageBytes : List Byte :=
  [0x5A, 0x01, 0x03, 1, 0, 0, 0, 6, 0, 0, 2, 0, 2, 2, 0, 4, 4, 0, 10, 8, 0, 18, 16, 0, 34, 64]
    ++ [2, 0, 0, 0, 1, 0, 6, 5, 0, 3, 0, 1, 1, 0x03, 0xE8, 0x04, 0xB0, 0x01, 0xD4, 0xC0, 0x01, 0x2C, 0xA5]

/-- State.reset with a store that holds some bytes from address 0 on, and a head fitted. -/
def withImage (bytes : List Byte) : State :=
  { State.reset with store := { Store.erased with cells := programCells [] 0 bytes }, head := .unverified }

def oneBurst : State := after .burstApply (withImage imageBytes)
def threeBursts : State := after .burstApply (after .burstApply oneBurst)

theorem test_burstApply :
    oneBurst.gates.generation = 1 ∧ oneBurst.gates.nb = 0 ∧ oneBurst.gates.table[5] = ⟨34, 64⟩ ∧
    oneBurst.boot = .starting (.bursts 26 2 1) := by decide +kernel

theorem test_loaderEnd :
    (after .loaderEnd threeBursts).loaded = { result := .ok, reason := none, applied := 3, faultAddr := none } ∧
    (after .loaderEnd threeBursts).head = .measuring ∧ (after .loaderEnd threeBursts).status.flags = 1 := by decide +kernel

/-- Byte 48 at 0xFF: FAULT(END), 3 applied, at 48. Byte 1 at 0x02: FAULT(FORMAT) at 1. -/
theorem test_loader_faults :
    (withImage (imageBytes.set 48 0xFF)).toPart.loaderNext (.bursts 48 0 3) = faultAt .endMarker 3 48 ∧
    (withImage (imageBytes.set 1 0x02)).toPart.loaderNext .busyWait = faultAt .format 0 1 ∧
    (withImage (imageBytes.set 2 0x04)).toPart.loaderNext (.bursts 48 1 3) = faultAt .burst 3 48 := by decide +kernel

theorem test_loaderBusyTimeout : (after .loaderBusyTimeout (withImage imageBytes)).boot = .starting .timedOut := by
  decide +kernel
theorem test_deviceReset :
    (after (.deviceReset 2 true false) (shooting 2)).bucket = 16777215 ∧
    (after (.deviceReset 2 true false) (shooting 2)).boot = .starting .busyWait ∧
    (after (.deviceReset 2 true false) (shooting 2)).link.rate = 2 := by decide +kernel

/-- READY with the image in the store. -/
def stored : State := { withImage imageBytes with boot := .ready }

theorem test_storeRead :
    wire (after .storeReadComplete (after (.storeRead 4 [0, 48, 0, 2]) stored)) =
      some { kind := 0x81, tag := 4, payload := [0x13, 0, 0, 48, 0, 2, 0xA5, 0xFF] } := by decide +kernel
theorem test_storeWrite :
    cellAt (after .storeWriteComplete (after (.storeWrite 4 [0, 48, 0x5F, 0x12]) stored)).store.cells 48 = 0x05 ∧
    wire (after (.storeWrite 4 [0, 255, 1, 2]) stored) = some { kind := 0x81, tag := 4, payload := [0x14, 9] } := by
  decide +kernel
theorem test_storeErase :
    (after .storeEraseComplete (after (.storeErase 4 [0, 0]) stored)).store.cells = [] ∧
    wire (after (.storeErase 4 [0x10, 1]) stored) = some { kind := 0x81, tag := 4, payload := [0x15, 9] } := by decide +kernel
theorem test_storeWriteTimeout :
    wire (after (.storeWriteTimeout .busyWait) (after (.storeWrite 4 [0, 48, 0]) stored)) =
      some { kind := 0x81, tag := 4, payload := [0x14, 10] } := by decide +kernel
theorem test_storeEraseTimeout :
    wire (after (.storeEraseTimeout .writeEnable) (after (.storeErase 4 [0, 0]) stored)) =
      some { kind := 0x81, tag := 4, payload := [0x15, 10] } := by decide +kernel
theorem test_storeReload :
    (after (.storeReload 1 []) stored).boot = .reloading .busyWait ∧
    wire (after (.storeReload 1 []) (firing 0 2)) = some { kind := 0x81, tag := 1, payload := [0x16, 1] } := by decide +kernel

theorem test_decodeTableWord (nbits w : Nat) (s : State) : decodeTableWord nbits w = none ∧ s.withFetchWord nbits w = s :=
  ⟨rfl, rfl⟩

/-! ### Witnesses: states and operands that meet the hypotheses of the statements -/

/-- The Command Unit is free in every test state that begins from `ready`. -/
theorem witness_free :
    ready.takesAtOnce = true ∧ ready.boot = .ready ∧ (armed 0).takesAtOnce = true ∧ (armed 0).boot = .ready ∧
    (shooting 2).takesAtOnce = true ∧ (shooting 2).boot = .ready ∧ stored.takesAtOnce = true ∧
    State.reset.takesAtOnce = true ∧ State.reset.boot ≠ .ready := by decide +kernel

theorem witness_StepRunsFrontCommand :
    ({ ready with pending := [.periodEnd] } : State).pending = Instr.periodEnd :: [] ∧ ready.pending = [] := ⟨rfl, rfl⟩

theorem witness_DeviceResetValues :
    (shooting 2).link.held = none ∧ (after (.storeWrite 4 [0, 48, 0x5F]) stored).link.held = some (.storeWrite 4 48 [0x5F]) ∧
    (after (.storeErase 4 [0, 0]) stored).link.held = some (.storeErase 4 0) ∧ stored.store.ident ≠ 0 ∧
    stored.store.ident ≠ 0xFFFFFF := by decide +kernel

theorem witness_RepliesAndFlags :
    (busyLine ready).link.sending ≠ none ∧ ready.link.sending = none ∧ ready.link.replies = [] ∧
    BitVec.getLsbD (0x0020#16) Flag.laserBlocked.bit = true ∧ ready.status.flags.getLsbD Flag.lockChange.bit = false ∧
    (ready.status.global && ready.status.enables.getLsbD Flag.lockChange.bit) = false ∧
    (ready.status.global && ready.status.enables.getLsbD Flag.headChange.bit) = true := by decide +kernel

theorem witness_RoundingIsNearest : 1 ≤ (1 : Nat) ∧ (0 : Int) ≤ 0 ∧ 2 * ((-3 : Int) - (2 : Nat) * roundDiv (-3) 2).natAbs = 2 := by
  decide

theorem witness_ProfileStages :
    (16383 * 64 * 65535 ≤ 16383 * 64 * 65535 ∧ 1 ≤ 64 ∧ 1 ≤ 65535) ∧ litInputs.dark.state = .valid ∧
    (fun d : DarkRef => d.state = .valid ∧ (-4194304 : Int) - d.values[0] < -4194304 ∧ (4194303 : Int) < 4194303 - d.values[1])
      { state := .valid, source := none, values := putRun (Vector.replicate 512 0) 0 [1, -1] } ∧
    (1 ≤ 250 ∧ 1000 * 1 ≤ 4 * 250 ∧ 4 * 250 ≤ 1000 * 1) ∧ (⟨0, 15⟩ : CorrEntry).m = 0 ∧
    2147483647 < roundDiv (16777216 * 65535 * 2 ^ 15) 1048576 ∧ roundDiv (-16777216 * 65535 * 2 ^ 15) 1048576 < -2147483647 ∧
    roundDiv (3234 * 50000 * 2 ^ 6) 1048576 ≤ 2147483647 := by decide +kernel

theorem witness_GateValidityAndHeights : sixGates.nb ≤ 512 ∧ sixGates.valid = true ∧ 5 < sixGates.nb ∧ 4 + 1 < sixGates.nb := by
  decide +kernel

theorem witness_FirePulseOnlyWhenSafe :
    exec .periodEnd (firing 118815 2) = .next (shooting 2) ∧ (shooting 2).fire ≠ none ∧
    (shooting 2).fire ≠ (firing 118815 2).fire ∧ (firing 118815 2).shot = none ∧ (shooting 2).litShot = true :=
  ⟨rfl, by decide +kernel⟩

theorem witness_BucketFallsOnlyByDrain :
    (firing 118815 2).bucket ≤ 16777215 ∧ exec .periodEnd (firing 118815 2) = .next (shooting 2) ∧
    (shooting 2).bucket < (firing 118815 2).bucket :=
  ⟨by decide +kernel, rfl, by decide +kernel⟩

theorem witness_ShotEndCharge :
    ready.pendingCharge = none ∧ (shooting 2).pendingCharge = some 1200 ∧ (shooting 2).overEnergy = false ∧
    1200 < (some 1201).getD 1200 ∧ (some 1200).getD 1200 ≤ 1200 ∧ (shooting 2).permitted = true := by decide +kernel

theorem witness_SlotTick :
    ready.gen = .stopped ∧ ({ ready with gen := .ending 250 } : State).gen = .ending 250 ∧ (firing 118815 2).gen = .running 250 ∧
    (firing 118815 2).shot = none ∧ (firing 118515 2).eligible 0 = true ∧ (shooting 2).shot ≠ none ∧
    (shooting 2).gen = .running 250 ∧ (∀ k, (armed 0).eligible k = false) ∧ (armed 0).gen = .running 250 ∧
    ([0, 1, 2, 3] : List (Fin 4)).find? (firing 118515 2).eligible = some 0 ∧ (firing 118515 2).runs[0].state = .active false ∧
    (firing 118515 2).arb.mode = .fixed := by decide +kernel

theorem witness_PinEvents : (armed 0).permitted = true ∧ ready.permitted = false := by decide +kernel

theorem witness_HeadEvents :
    ({ armed 0 with boot := .headStep } : State).permitted = true ∧ (armed 0).boot ≠ .headStep ∧ (armed 0).permitted = true ∧ ready.boot ≠ .headStep ∧ ready.permitted = false ∧
    ({ ready with boot := .headStep, head := .measuring } : State).permitted = false ∧ ready.head ≠ .measuring ∧
    ({ ready with head := .measuring } : State).boot ≠ .headStep := by decide +kernel

theorem witness_LaserCommands :
    ready.head = .absent ∧ ({ ready with head := .measuring } : State).takesAtOnce = true ∧ (armed 0).head ≠ .absent ∧
    (armed 0).head ≠ .measuring := by decide +kernel

theorem witness_PingAnswers : (List.replicate 32 (0 : Byte)).length ≤ 32 ∧ 32 < (List.replicate 33 (0 : Byte)).length := by decide

/-- A READY part whose optional status fields are present. -/
def fullStatus : State :=
  { ready with
    loaded := { result := .fault, reason := some .burst, applied := 2, faultAddr := some 33 }
    link := { ready.link with lastError := some .crc }
    port := { ready.port with lastEnd := some { outcome := .accepted, reason := .none, campaign := 3, kind := .lit
                                                expectedTag := 9, receivedTag := some 9, energy := some 1000 } }
    engine := { ready.engine with
      inHand := some { bank := 0, lit := none }, queue := [7]
      dark := { ready.engine.dark with state := .valid, source := some (2, 5) } } }

theorem witness_ReadStatusLayout :
    fullStatus.takesAtOnce = true ∧ fullStatus.loaded.reason = some .burst ∧ fullStatus.loaded.faultAddr = some 33 ∧
    fullStatus.link.lastError = some .crc ∧ fullStatus.engine.queue[0]? = some 7 ∧ fullStatus.engine.queue.length ≤ 7 ∧
    fullStatus.engine.dark.source = some (2, 5) ∧ fullStatus.port.lastEnd.isSome = true ∧
    fullStatus.engine.inHand.isSome = true ∧ ready.loaded.reason = none ∧ ready.loaded.faultAddr = none ∧
    ready.link.lastError = none ∧ ready.port.lastEnd = none ∧ ready.engine.inHand = none ∧ ready.engine.dark.source = none := by
  decide +kernel

theorem witness_LaserAndCampaignLayouts :
    (armed 0).head = .verified 3 ∧ (∀ c, ready.head ≠ .verified c) ∧ (shooting 2).pendingCharge = some 1200 ∧
    ready.pendingCharge = none ∧ 4 ≤ (4 : Byte).toNat ∧ (3 : Byte).toNat = (3 : Fin 4) ∧
    (shooting 2).runs[0].state = .active false ∧ (∀ odd, ready.runs[0].state ≠ .active odd) ∧
    (shooting 2).banks[bankOf 0 false].state = .filling ∧ ready.banks[bankOf 0 true].state = .free ∧
    (processing CampEntry.reset.settings none).banks[bankOf 0 false].state = .processing ∧
    (shooting 2).shot.map Shot.campaign = some 0 ∧ ready.shot = none ∧ ready.arb.order.length = 4 := by decide +kernel

theorem witness_ReadTracksAndTable :
    ({ ready with sky := fourPasses } : State).takesAtOnce = true ∧ 10 < (11 : Byte).toNat ∧
    tableOf (1 : Byte).toNat = some .gate ∧ tableEntries .gate < 512 + 1 ∧ 0 + 512 ≤ tableEntries .gate ∧
    512 * tableSize .gate ≤ 2091 ∧ tableOf 4 = some .thresh ∧ 0 + 262 ≤ tableEntries .thresh ∧ 2091 < 262 * tableSize .thresh ∧
    261 * tableSize .thresh ≤ 2091 := by decide

theorem witness_ClearStatusSetNotices : (1 : Byte).toNat ≤ 1 ∧ 1 < (2 : Byte).toNat := by decide

theorem witness_WarmRestartEffect : ready.shot = none ∧ (shooting 2).shot.isSome = true := by decide +kernel

theorem witness_FieldChecksAreRanges :
    2147483647 < 4294967296 ∧ 65535 < 65536 ∧ 16777215 < 16777216 ∧ 1099511627775 < 1099511627776 ∧
    entryOk .gate [0x0F, 0xBF, 64] = true ∧ entryOk .gate [0x0F, 0xC0, 64] = false ∧ entryOk .bins [2, 0] = true ∧
    entryOk .bins [2, 1] = false := by decide

theorem witness_LoadTableStores :
    ([] : List Byte).length < 5 ∧ tableOf 1 = some .gate ∧ tableEntries .gate < 511 + 2 ∧ 511 + 1 ≤ tableEntries .gate ∧
    ([0, 34] : List Byte).length ≠ 1 * tableSize .gate ∧ ([0, 34, 64] : List Byte).length = tableSize .gate ∧
    entryOk .gate [0, 34, 64] = true ∧ entryOk .gate [0, 34, 65] = false ∧ tableOf 10 = some .tracker ∧ tableOf 11 = none ∧
    (∃ k : Fin 4, (firing 0 2).runs[k].state ≠ .idle) ∧ (∀ k : Fin 4, ready.runs[k].state = .idle) ∧
    (∀ b : Fin 8, ready.banks[b].state = .free) ∧ ready.engine.inHand = none ∧
    (processing CampEntry.reset.settings none).engine.inHand ≠ none ∧
    (processing CampEntry.reset.settings none).takesAtOnce = true := by decide +kernel

theorem witness_StoredEntriesReadBack :
    (∀ e ∈ ([[0, 0, 2], [0, 2, 2]] : List (List Byte)), e.length = tableSize .gate ∧ entryOk .gate e = true) ∧
    510 + 2 ≤ tableEntries .gate ∧ ([0, 1, 200, 1] : List Byte).length = tableSize .cadence ∧
    entryOk .cadence [0, 1, 200, 1] = true ∧ 0 + 1 ≤ tableEntries .cadence ∧ ([9, 0, 3, 0xE8, 0x4E, 0xC0, 0, 0, 0, 0, 1] : List Byte).length = tableSize .finder ∧
    entryOk .finder [9, 0, 3, 0xE8, 0x4E, 0xC0, 0, 0, 0, 0, 1] = true ∧ entryOk .tracker (be 2 2001 ++ [4, 15, 15, 255]) = true := by
  decide

theorem witness_LoadSideEffects :
    ready.gen = .stopped ∧ (armed 0).gen = .running 250 ∧ ({ ready with gen := .ending 300 } : State).gen = .ending 300 ∧
    (armed 0).permitted = true ∧
    ((armed 0).writeEntries .head 3 [0 :: (be 2 1000 ++ be 2 1200 ++ be 3 120000 ++ be 2 300)]).permitted = false := by
  decide +kernel

/-- READY with the six gates, C0 sorting bins 0..5. -/
def sorting (hi : Nat) : State :=
  { ready with
    gates := sixGates
    campTable := ready.campTable.set 0
      { CampEntry.reset with settings := { CampEntry.reset.settings with sort := true, sortLo := 0, sortHi := hi } } }

theorem witness_StartOpensBank :
    4 ≤ (4 : Byte).toNat ∧ (3 : Byte).toNat = (3 : Fin 4) ∧ (firing 0 2).runs[0].state ≠ .idle ∧ ready.gates.valid = false ∧
    (sorting 5).gates.valid = true ∧ (sorting 5).runs[0].state = .idle ∧
    ((sorting 5).campTable[0].settings.sortLo < (sorting 5).campTable[0].settings.sortHi ∧
      (sorting 5).campTable[0].settings.sortHi < (sorting 5).gates.nb) ∧
    ¬((sorting 6).campTable[0].settings.sortLo < (sorting 6).campTable[0].settings.sortHi ∧
      (sorting 6).campTable[0].settings.sortHi < (sorting 6).gates.nb) ∧
    (sorting 5).banks[bankOf 0 false].state = .free ∧
    (∀ odd : Bool, ({ sorting 5 with banks := Vector.replicate 8 { closedBank with state := .closed } } : State).banks[bankOf 0
      odd].state ≠ .free) := by decide +kernel

/-- C0 with autostart on a sort range below NB, and on one that is not. -/
def starting (hi : Nat) : State :=
  { sorting hi with campTable := ready.campTable.set 0 { (sorting hi).campTable[0] with autostart := true } }

theorem test_autostart :
    (starting 5).toPart.autostart.runs[0].state = .active false ∧ (starting 5).toPart.autostart.status = ready.status ∧
    (starting 6).toPart.autostart.runs[0].state = .idle := by decide +kernel

theorem witness_StartOpensBank_autostart :
    (starting 5).campTable[0].autostart = true ∧ (starting 5).runs[0].state = .idle ∧ (starting 5).gates.valid = true ∧
    (starting 5).campTable[0].settings.sortLo < (starting 5).campTable[0].settings.sortHi ∧
    (starting 5).campTable[0].settings.sortHi < (starting 5).gates.nb ∧ (starting 5).banks[bankOf 0 false].state = .free ∧
    ready.campTable[0].autostart = false ∧
    (∀ odd : Bool, ({ starting 5 with banks := Vector.replicate 8 { closedBank with state := .closed } } : State).banks[bankOf 0
      odd].state ≠ .free) := by decide +kernel

theorem witness_StopHoldResume :
    ready.runs[0].state = .idle ∧ (shooting 2).runs[0].state = .active false ∧
    ({ ready with runs := ready.runs.set 0 { Run.reset with state := .waitBank, remaining := 3 } } : State).runs[0].state =
      .waitBank := by decide +kernel

theorem witness_TerminalCount :
    (firing 0 2).runs[0].state = .active false ∧ 1 < (firing 0 2).runs[0].remaining ∧ (firing 0 1).runs[0].remaining ≤ 1 ∧
    (firing 0 1).engine.inHand = none ∧ (firing 0 1).engine.queue = [] ∧
    (processing CampEntry.reset.settings none).engine.inHand ≠ none ∧ (firing 0 1).campTable[0].repeats = .once ∧
    (firing 0 1).banks[bankOf 0 true].state = .free := by decide +kernel

/-- C0 CONTINUOUS with one shot to accept, its other bank FREE or CLOSED. -/
def continuous (other : BankState) : State :=
  { firing 0 1 with
    campTable := ready.campTable.set 0 { CampEntry.reset with repeats := .continuous }
    banks := (firing 0 1).banks.set 1 { Bank.cleared with state := other } }

theorem witness_TerminalCount_continuous :
    (continuous .free).campTable[0].repeats = .continuous ∧ (continuous .free).runs[0].state = .active false ∧
    (continuous .free).banks[bankOf 0 true].state = .free ∧ (continuous .closed).banks[bankOf 0 true].state ≠ .free := by
  decide +kernel

/-- SYNC, the high byte 0x3C first, then a word with a damaged symbol, whatever the code is. -/
theorem test_deliveredWords :
    deliveredWords [symbolOf 0x3C, symbolOf 0x5A, symbolOf 0x00, .slipped] = [.good 0x3C5A, .bad] := by
  simp [deliveredWords, wordOfSymbols]

theorem witness_LockAndReceiver :
    ready.port.lock = .unlocked 0 ∧ ({ ready with port := { ready.port with lock := .unlocked 15 } } : State).port.lock = .unlocked 15 ∧
    (armed 0).port.lock = .locked 0 ∧ (armed 0).port.rx = .hunt ∧ (shooting 2).shot.isSome = true ∧
    ({ shooting 2 with port := { (shooting 2).port with lock := .locked 3, rx := .settle 3 } } : State).port.lock = .locked 3 := by
  decide +kernel

/-- Three bad words, as many as a LOCKED port bears, and 4,097 good ones. -/
def damaged : List LineWord := [.bad, .bad, .bad] ++ List.replicate 4097 (.good 0)

theorem witness_WholeRecordIsJudged :
    (armed 0).port.lock = .locked 0 ∧ (armed 0).port.rx = .hunt ∧ damaged.length = 4100 ∧ LineWord.bad ∈ damaged ∧
    (shooting 2).port.lock = .locked 0 ∧ (shooting 2).port.rx = .hunt ∧ (shooting 2).shot.isSome = true ∧
    (∀ pre post, damaged ++ [.good 0] ≠ pre ++ [.bad, .bad, .bad, .bad] ++ post) := by
  refine ⟨by decide +kernel, by decide +kernel, by decide +kernel, .head _, by decide +kernel, by decide +kernel,
    by decide +kernel, fun pre post h => ?_⟩
  have three : List.count LineWord.bad (damaged ++ [.good 0]) = 3 := by decide +kernel
  have four : List.count LineWord.bad [.bad, .bad, .bad, .bad] = 4 := by decide
  rw [h, List.count_append, List.count_append, four] at three
  omega

/-- A bad word in a record takes its position, sets the corrupt mark, and the shot ends CHECK with its charge. -/
theorem test_wordEvent_bad :
    (after (.wordEvent .bad) (atCheck (shooting 2) { recordA 1 with words := (recordA 1).words.take 9 })).port.rx =
      .record { recordA 1 with words := (recordA 1).words.take 9 ++ [none], corrupt := true } ∧
    (after (.wordEvent (.good 0x1234)) (atCheck (shooting 2) { recordA 1 with corrupt := true })).port.lastEnd.map
      ShotEnd.reason = some .check ∧
    (after (.wordEvent (.good 0x1234)) (atCheck (shooting 2) { recordA 1 with corrupt := true })).bucket = 119715 := by
  decide +kernel

theorem witness_RecordVerdict :
    (atCheck (shooting 2) (recordA 1)).port.lock = .locked 0 ∧ (recordA 1).words.length = 4101 ∧
    (recordA 1).bound = .inFlight ∧ (shooting 2).shot.map Shot.expectedTag = some (recordA 1).tag ∧
    (recordA 1).sampleCount = 4096 ∧ (recordA 1).preCount = 64 ∧ (recordA 1).outOfRange = false ∧ (recordA 1).digFault = false ∧
    (recordA 2).tag ≠ 1 ∧ (recordA 0x101).digFault = true ∧ (shooting 2).shot.map Shot.abandoned = some false ∧
    (after (.stop 1 [0]) (shooting 2)).shot.map Shot.abandoned = some true ∧ (armed 0).shot = none := by decide +kernel

theorem witness_ShotEndsRejected :
    ready.port.timer = none ∧ (shooting 2).port.timer = some 1000 ∧ (shooting 2).shot.isSome = true ∧
    (shooting 2).port.rx = .hunt ∧ (atCheck (shooting 2) (recordA 1)).port.rx = .record (recordA 1) := by
  refine ⟨?_, ?_, ?_, ?_, rfl⟩ <;> decide +kernel

theorem witness_ShotEndsRejected_overEnergy :
    (shooting 2).pendingCharge = some 1200 ∧ 1200 < 1201 ∧ ¬1200 < 1200 ∧ (shooting 2).overEnergy = false ∧
    (shooting 2).permitted = true ∧ (shooting 2).shot.map Shot.abandoned = some false ∧
    (after (.stop 1 [0]) (shooting 2)).shot.map Shot.abandoned = some true := by decide +kernel

theorem witness_RecordAddedToBank : sixGates.nb ≤ 512 ∧ (recordA 1).words.length = 4101 := by decide +kernel

theorem witness_ProfileCompletes :
    ready.engine.inHand = none ∧ (processing CampEntry.reset.settings none).engine.inHand = some { bank := 0, lit := none } ∧
    (processing CampEntry.reset.settings (some litInputs)).engine.inHand = some { bank := 0, lit := some litInputs } ∧
    (processing CampEntry.reset.settings none).engine.queue = [] ∧ (processing CampEntry.reset.settings none).link.held = none ∧
    (processing CampEntry.reset.settings none).link.commands = [] ∧ CampEntry.reset.settings.sendProfile = false ∧
    CampEntry.reset.settings.sort = false ∧ (processing CampEntry.reset.settings none).runs[0].state ≠ .waitBank := by
  refine ⟨rfl, rfl, rfl, ?_⟩; decide +kernel

theorem witness_ProfileCompletes_sorting :
    (processing { CampEntry.reset.settings with sort := true } (some litInputs)).banks[0].settings.sort = true := by decide +kernel

theorem witness_BankValuesAndFlags :
    sixGates.nb ≤ 512 ∧ ((5 : Fin 512) : Nat) < sixGates.nb ∧
    (closedBank.settings.sortLo ≤ closedBank.settings.sortHi ∧ closedBank.settings.sortHi ≤ 511) ∧ closedBank.settings.sortLo ≤ 1 ∧
    1 ≤ closedBank.settings.sortHi ∧ (closedBank.values sixGates ready.corr none)[1]? ≠ none := by decide +kernel

/-- An IDLE engine with bank 0 at the head of its queue, which the events of the part leave for no longer than a step. -/
def queued (kind : Kind) : State :=
  { armed 0 with
    banks := ready.banks.set 0 { closedBank with state := .closed, settings := { CampEntry.reset.settings with kind := kind } }
    engine := { ready.engine with queue := [0] } }

theorem witness_EngineSteps :
    (queued .lit).engine.inHand = none ∧ (queued .lit).engine.queue = 0 :: [] ∧ (queued .lit).banks[0].settings.kind = .lit ∧
    (queued .dark).banks[0].settings.kind = .dark ∧ (queued .lit).head = .verified 3 ∧ ready.engine.queue = [] ∧
    (busyLine ready).link.sending ≠ none ∧ ready.engine.slot = .empty ∧ ready.link.sending = none ∧ ready.link.replies = [] ∧
    ready.status.pendingSet = 0 ∧ ready.link.reports = [] ∧ (Slot.sending ≠ Slot.empty) ∧ ready.runs[0].state ≠ .waitBank := by
  decide +kernel

theorem witness_EngineSteps_waiting :
    ({ queued .lit with runs := ready.runs.set 0 { Run.reset with state := .waitBank, remaining := 1 } } : State).runs[0].state =
      .waitBank ∧ (∀ c, ({ queued .lit with head := .absent } : State).head ≠ .verified c) ∧
    (processing CampEntry.reset.settings none).engine.inHand ≠ none := by decide +kernel

/-- A bank in hand with send_profile = 1, with and without its dark reference applied. -/
theorem witness_EngineSteps_profile :
    (processing { CampEntry.reset.settings with sendProfile := true, sort := true } (some litInputs)).banks[0].settings.sendProfile
      = true ∧ ready.banks[0].settings.sendProfile = false ∧ litInputs.dark.state = .valid ∧ ready.engine.dark.state ≠ .valid := by
  decide +kernel

/-- TRACK_CLEAR and a CORR load held behind bank 0. -/
def heldClear : State := after (.trackClear 1 []) (processing CampEntry.reset.settings none)
def heldLoad : State := after (.loadTable 1 [3, 0, 0, 0, 1, 0, 1, 2]) (processing CampEntry.reset.settings none)

theorem witness_DeferredCommands :
    ready.engine.inHand = none ∧ (processing CampEntry.reset.settings none).engine.inHand ≠ none ∧
    heldClear.link.held = some (.deferredClear { kind := 0x11, tag := 1, payload := [] }) ∧
    heldLoad.link.held = some (.deferredLoad { kind := 0x06, tag := 1, payload := [3, 0, 0, 0, 1, 0, 1, 2] } .corr) ∧
    ([3, 0, 0, 0, 1, 0, 1, 2] : List Byte) = 3 :: (be 2 0 ++ be 2 1 ++ [[0, 1, 2]].flatten) ∧ tableSize .corr = 3 ∧
    ready.link.held = none := by decide +kernel

theorem witness_BinStandings :
    (fun b : BinView => 1 ≤ b.tc ∧ b.tc = 1 ∧ b.clipped = false ∧ b.below = true)
      { index := 0, base := 0, top := 5, span := 5, beta := -1, clipped := false, tc := 1, th := 0 } := by decide

theorem witness_DetectionsOrdered :
    binsB.Pairwise (fun a b => a.index < b.index) ∧
    (findLayers finderEntry binsB).detections.map Detection.topBin = [some 14, none] := by decide +kernel

/-- The scan state after some bins. -/
def scanAfter (bs : List BinView) : Scan := bs.foldl (fun sc b => (sc.step finderEntry b).1) .clear

/-- Profile B: the scan is CLEAR after bins 0 to 11; 12 and 13 are a run of m_in bins; 15 and 16 close the layer with top 14. A bin
above 14 shows return, but neither 15 nor 16 does. -/
theorem witness_DetectionsOrdered_scan :
    1 ≤ finderEntry.mIn ∧ 1 ≤ finderEntry.mOut ∧ scanAfter (binsB.take 12) = .clear ∧
    ((binsB.drop 12).take 2).length = finderEntry.mIn ∧ (∀ b ∈ (binsB.drop 12).take 2, b.above = true) ∧
    (∃ base last peak, scanAfter (binsB.take 15) = .inLayer base last peak) ∧
    ((binsB.drop 15).take 2).length = finderEntry.mOut ∧ (∀ b ∈ (binsB.drop 15).take 2, b.below = true) ∧
    ([] : List BinView).length < finderEntry.mIn ∧ (binsB.take 1).map BinView.above = [false] ∧
    (∃ b ∈ binsB, 14 < b.index ∧ 0 < b.th ∧ (b.th : Int) ≤ b.beta) ∧
    (∀ b ∈ binsB.take 17, 14 < b.index → b.th = 0 ∨ b.beta < (b.th : Int)) := by
  refine ⟨by decide, by decide, by decide +kernel, by decide, by decide +kernel, ⟨_, _, _, rfl⟩, ?_⟩
  decide +kernel

theorem witness_LayersAndPeaks :
    binsB.Pairwise (fun a b => a.index < b.index) ∧ 1 ≤ finderEntry.mIn ∧ 1 ≤ finderEntry.mOut ∧
    (scanFrom finderEntry .clear binsB).map (fun l => l.top.map BinView.index) = [some 14, none] ∧
    binsB = binsB.take 15 ++ (binsB.drop 15).take 2 ++ binsB.drop 17 ∧ ((binsB.drop 15).take 2).length = finderEntry.mOut ∧
    (∀ b ∈ (binsB.drop 15).take 2, b.below = true) := by decide +kernel

theorem witness_SkySummary :
    1 ≤ finderEntry.vvLimit ∧ binsA ≠ [] ∧ 1 ≤ finderEntry.mOut ∧ visibility 30000000 0 0 binsA = (80, false) ∧
    visibility 40000000 0 0 binsA = (2360, true) ∧ hazeTop 2 (binsB.take 12) = some 160 ∧
    (findLayers finderEntry binsA).sky = .obscured ∧ (findLayers finderEntry binsB).sky ≠ .obscured ∧
    (findLayers finderEntry binsA).detections ≠ [] ∧ (findLayers finderEntry []).detections = [] := by decide +kernel

theorem witness_TrackMatchAndChange :
    (bestMatch 200 920 fourPasses.tracks).isSome = true ∧ bestMatch 0 921 fourPasses.tracks = none ∧
    (fourPasses.tracks.map Track.state).length = 3 ∧ fourPasses.sp < 65536 ∧ (∀ t ∈ fourPasses.tracks, t.lastPass < 65536) ∧
    (∃ t ∈ fourPasses.tracks, t.owner ≠ 0) ∧ (∃ t ∈ fourPasses.tracks, t.owner = 1 ∧ t.state = .tentative) ∧
    (∃ t ∈ fourPasses.tracks, t.owner = 0 ∧ t.state ≠ .tentative ∧ 2 ≤ min (t.misses + 1) 15) ∧
    (∃ t ∈ fourPasses.tracks, t.owner = 0 ∧ t.state ≠ .tentative ∧ min (t.misses + 1) 15 < 2) := by decide +kernel

theorem witness_SortingPass :
    fourPasses.fits ∧ (∃ t ∈ (fourPasses.pass trackerEntry 1 [seen 600 none 1]).1.tracks, t.lastPass = (fourPasses.sp + 1) % 65536) ∧
    (∀ o ∈ fourPasses.tracks, o.lastPass ≠ (fourPasses.sp + 1) % 65536) ∧ fourPasses.tracks.length + 5 ≤ 8 := by
  unfold Sky.fits Track.fits; decide +kernel

/-- Eight tracks of ids 1 to 8: ids 3 and 5 COASTING with equal misses, 5 with the higher base, and the others CONFIRMED. -/
def eightTracks (coasting : Bool) : List Track :=
  (List.range 8).map fun i =>
    { id := i + 1, state := if coasting && (i == 2 || i == 4) then .coasting else .confirmed, owner := 1, base := 100 * i
      top := none, cls := .cloud, flags := { topSeen := false, clipped := false, belowRidge := false }, peak := 9, hits := 3
      misses := if coasting && (i == 2 || i == 4) then 1 else 0, lastPass := 1 }

def creation (coasting : Bool) : Creation :=
  { rest := eightTracks coasting, fresh := [], nextId := 255, discarded := false }

/-- The victim is track 5; the new track takes id 255, and the counter stands at 1. A table without COASTING discards. -/
theorem test_replacement :
    ((creation true).place trackerEntry 0 2 (seen 5000 none 7)).rest.map Track.id = [1, 2, 3, 4, 6, 7, 8] ∧
    ((creation true).place trackerEntry 0 2 (seen 5000 none 7)).fresh.map (fun t => (t.id, t.base, t.state)) =
      [(255, 5000, .tentative)] ∧
    ((creation true).place trackerEntry 0 2 (seen 5000 none 7)).nextId = 1 ∧
    ((creation false).place trackerEntry 0 2 (seen 5000 none 7)).discarded = true ∧
    freeId ((eightTracks true).take 7) 8 1 = 8 := by decide +kernel

theorem witness_SortingPass_places :
    (creation true).rest.length + (creation true).fresh.length = 8 ∧ (victim (creation true).rest).map Track.id = some 5 ∧
    victim (creation false).rest = none ∧ fourPasses.tracks.length + 0 < 8 ∧ ((eightTracks true).take 7).length ≤ 7 ∧
    bestMatch 200 920 fourPasses.tracks ≠ none ∧ bestMatch 0 921 fourPasses.tracks = none ∧
    ({ tracks := eightTracks false, nextId := 9, sp := 1 } : Sky).pass trackerEntry 1 [seen 5000 none 7] =
      ({ tracks := (({ tracks := eightTracks false, nextId := 9, sp := 1 } : Sky).pass trackerEntry 1 [seen 5000 none 7]).1.tracks
         nextId := 9, sp := 2 }, true) := by decide +kernel

/-- A report of profile B over the four tracks. -/
def reportB : Report := buildReport 0 closedBank 0 (findLayers finderEntry binsB) fourPasses

theorem witness_ReportsListTracks :
    reportB.layers.map ReportEntry.id = [1, 3] ∧ (busyLine ready).link.sending ≠ none ∧ (busyLine ready).link.reports.length < 2 ∧
    ({ busyLine ready with link := { (busyLine ready).link with reports := [reportB, reportB] } } : State).link.reports =
      [reportB, reportB] ∧ ready.link.sending = none ∧ ready.link.replies = [] ∧ ready.status.pendingSet = 0 ∧
    ready.link.reports = [] := by decide +kernel

/-- The PROFILE frame of the worked case. -/
def profileC0 : Profile :=
  (processing { CampEntry.reset.settings with sendProfile := true } (some litInputs)).profileInHand
    { bank := 0, lit := some litInputs }

theorem witness_OutboundLayouts :
    reportB.vv = none ∧ reportB.haze = some 160 ∧ { reportB with vv := some 80, haze := none }.vv = some 80 ∧
    profileC0.eRef = some 1000 ∧ profileC0.darkSource = some (2, 5) ∧ profileC0.values.length = 6 ∧
    { profileC0 with eRef := none, darkSource := none }.darkSource = none := by decide +kernel

/-- The states of the invariants: a READY part that idles, and one that fires. -/
theorem witness_RotatingListKept :
    (firing 118815 2).arb.ordered ∧ step { firing 118815 2 with pending := [.periodEnd] } = .next (shooting 2) :=
  ⟨by unfold Arbiter.ordered; decide +kernel, rfl⟩

theorem witness_BanksAgreeKept : (firing 118815 2).toPart.banksAgree := by
  unfold Part.banksAgree; decide +kernel

theorem witness_CountsAgreeKept : (firing 118815 2).toPart.countsAgree := by
  refine ⟨witness_BanksAgreeKept, ⟨by decide +kernel, by decide +kernel, by decide +kernel, trivial, rfl, by show 0 < 4; decide⟩,
    trivial, fun k => ?_, by unfold Bank.closedFull; decide +kernel, by decide +kernel⟩
  match k with
  | 0 => exact ⟨by decide +kernel, by show 1 ≤ 2 ∧ 2 + 0 = 2; decide⟩
  | 1 => exact ⟨by decide +kernel, rfl⟩
  | 2 => exact ⟨by decide +kernel, rfl⟩
  | 3 => exact ⟨by decide +kernel, rfl⟩

theorem witness_TablesStayInRange : ready.toPart.tablesInRange := by
  refine ⟨by unfold Cadence.inRange; decide +kernel, ?_, ?_, ?_, by decide +kernel, by decide +kernel, ?_, ?_,
    by unfold FinderEntry.inRange; decide +kernel, by unfold TrackerEntry.inRange; decide +kernel, trivial⟩
  · unfold HeadRow.inRange; decide +kernel
  · unfold CampEntry.inRange; decide +kernel
  · intro i; show GateEntry.inRange (Vector.replicate 512 _)[i.val]; rw [Vector.getElem_replicate]; unfold GateEntry.inRange; decide
  · intro i; show CorrEntry.inRange (Vector.replicate 512 _)[i.val]; rw [Vector.getElem_replicate]; unfold CorrEntry.inRange; decide
  · intro i; show ThreshEntry.inRange (Vector.replicate 512 _)[i.val]; rw [Vector.getElem_replicate]; unfold ThreshEntry.inRange; decide

theorem witness_TrackTableKept : fourPasses.fits := witness_SortingPass.1

theorem witness_LinkKept : (busyLine ready).toPart.linkFits := by unfold Part.linkFits; decide +kernel

theorem witness_StoreBytesAndForm :
    Memory.wf stored.store.cells = true ∧ Memory.wf [(5, 0x12)] = true ∧ ([1, 2] : List Byte)[1]? = some 2 ∧ 6 = 5 + 1 ∧
    (4 < 5 ∨ 5 + 2 ≤ 4) ∧ 4096 ≤ 8191 ∧ 8191 < 4096 + 4096 ∧ (8192 < 4096 ∨ 4096 + 4096 ≤ 8192) := by decide +kernel

theorem witness_FrameRoundTrip :
    ({ ready with link := { ready.link with rx := .hunt } } : State).link.rx = .hunt ∧
    (List.replicate 2098 (0 : Byte)).length ≤ 2098 ∧ ([true, false, true, false, false, false, true, true]).length = 8 ∧
    (∀ i < 8, [true, false, true, false, false, false, true, true][i]? = some ((0xC5 : Byte).getLsbD i)) := by decide +kernel

theorem witness_ReceiverStates :
    ready.link.rx = .startWait ∧ (LinkRx.length none 0xFFFF ≠ .startWait ∧ LinkRx.length none 0xFFFF ≠ .hunt) ∧
    (2 ≤ (0 : Byte).toNat * 256 + (2 : Byte).toNat ∧ (8 : Byte).toNat * 256 + (52 : Byte).toNat ≤ 2100) ∧
    (2100 < (8 : Byte).toNat * 256 + (53 : Byte).toNat) ∧ ([0x01] : List Byte).length + 1 < 3 ∧ 2 ≤ ([0x01] : List Byte).length + 1 ∧
    (0x12 : Byte).toNat * 256 + (0x34 : Byte).toNat = (0x1234#16).toNat ∧
    (0x12 : Byte).toNat * 256 + (0x35 : Byte).toNat ≠ (0x1234#16).toNat := by decide +kernel

/-- A busy line with its REPLY queue full, and a full command queue behind it. -/
def fullReplies : State :=
  { busyLine ready with
    link := { (busyLine ready).link with replies := List.replicate 4 { tag := 0, kind := 1, code := .ok, data := [] } } }
def fullCommands : State :=
  { fullReplies with
    link := { fullReplies.link with commands := List.replicate 8 { kind := 1, tag := 0, payload := [] } } }

theorem witness_CommandsQueuedOrRefused :
    commandOfRow (.unknownKindCommand 0x81 0 []) = some { kind := 0x81, tag := 0, payload := [] } ∧
    commandOfRow (.ping 0 []) = some { kind := 1, tag := 0, payload := [] } ∧ 8 ≤ fullCommands.link.commands.length ∧
    fullReplies.link.commands.length < 8 ∧ 4 ≤ fullReplies.link.replies.length ∧ heldClear.link.held ≠ none ∧
    0x16 < (0x17 : Byte).toNat ∧ State.reset.boot ≠ .ready ∧ (0x08 : Byte).toNat ∉ [0x01, 0x02, 0x03, 0x04, 0x07, 0x0C, 0x10, 0x12] ∧
    ([0, 0] : List Byte).length ≠ 1 := by decide +kernel

theorem witness_OneReplyPerCommand :
    commandOfRow (.ping 0 []) = some { kind := 1, tag := 0, payload := [] } ∧ (busyLine ready).takesAtOnce = true ∧
    Instr.periodEnd ≠ .endOfFrame ∧ exec .endOfFrame (busyLine ready) = .next (after .endOfFrame (busyLine ready)) ∧
    (busyLine ready).link.sending.map OutFrame.kind = some 0x81 ∧ (busyLine ready).link.held = none ∧
    (busyLine ready).link.replies.length < 4 :=
  ⟨rfl, by decide +kernel, by decide, rfl, by decide +kernel⟩

theorem witness_EndOfFramePrecedence :
    ready.link.sending = none ∧ (busyLine ready).link.sending.isSome = true ∧ (busyLine ready).link.replies = [] ∧
    fullReplies.link.replies ≠ [] ∧ (busyLine ready).status.pendingSet = 0 ∧ (busyLine ready).link.reports = [] ∧
    (busyLine { ready with status := { ready.status with pendingSet := 4 } }).status.pendingSet ≠ 0 := by decide +kernel

theorem witness_StoreCommandsHeld :
    65535 < 65536 ∧ 256 < 257 ∧ (1 ≤ 2 ∧ 2 ≤ 256 ∧ 65536 < 65535 + 2) ∧ (1 ≤ 1 ∧ 65535 + 1 ≤ 65536) ∧
    ([0, 0] : List Byte).length < 3 ∧ 258 < (List.replicate 259 (0 : Byte)).length ∧ 256 < 255 % 256 + 2 ∧ 0 % 256 + 256 ≤ 256 ∧
    4097 % 4096 ≠ 0 ∧ 61440 % 4096 = 0 ∧ stored.boot = .ready ∧ stored.link.held = none ∧
    (after (.storeErase 4 [0, 0]) stored).boot = .ready ∧
    (after (.storeErase 4 [0, 0]) stored).link.held = some (.storeErase 4 0) := by decide +kernel

/-- The transactions of R161 by the bytes sent, and the steps of a write. -/
theorem test_transactions :
    (Transaction.dataRead 0x1234 2).sends = [0x03, 0x12, 0x34] ∧ (Transaction.sectorErase 0xF000).sends = [0x20, 0xF0, 0x00] ∧
    (Held.storeWrite 4 0x0130 [0xAA]).transactions.map Transaction.sends = [[0x05], [0x06], [0x02, 0x01, 0x30, 0xAA], [0x05]] ∧
    lineBits [0x9F] = [true, false, false, true, true, true, true, true] ∧
    Store.erased.reply 0 .identification = [0xEF, 0x40, 0x16] := by decide +kernel

theorem witness_StoreOperationsEnd :
    (after (.storeRead 4 [0, 48, 0, 2]) stored).link.held = some (.storeRead 4 48 2) ∧
    (after (.storeWrite 4 [0, 48, 0x5F]) stored).link.held = some (.storeWrite 4 48 [0x5F]) ∧
    (after (.storeErase 4 [0, 0]) stored).link.held = some (.storeErase 4 0) ∧ stored.store.ident ≠ 0xFFFFFF ∧
    stored.store.ident ≠ 0 ∧ stored.link.commands = [] ∧
    (after (.storeWrite 4 [0, 48, 0x5F]) { stored with store := { stored.store with ident := 0xFFFFFF } }).link.held =
      some (.storeWrite 4 48 [0x5F]) := by decide +kernel

theorem witness_LoaderReadsImage :
    ({ Store.erased with ident := 0xFFFFFF } : Store).ident = 0xFFFFFF ∧ ({ Store.erased with ident := 0 } : Store).ident = 0 ∧
    (withImage imageBytes).store.busy = false ∧ cellAt (withImage imageBytes).store.cells 0 = 0x5A ∧
    cellAt (withImage imageBytes).store.cells 1 = 1 ∧ cellAt State.reset.store.cells 0 ≠ 0x5A ∧
    cellAt (withImage (imageBytes.set 1 2)).store.cells 1 ≠ 1 ∧ cellAt (withImage imageBytes).store.cells 48 = 0xA5 ∧
    cellAt (withImage imageBytes).store.cells 3 = 1 ∧ 0 + 6 ≤ tableEntries .gate ∧ 3 + 5 + 6 * tableSize .gate ≤ 65536 ∧
    65536 < 65532 + 5 ∧ 65536 < 65531 + 5 + 1 * tableSize .gate ∧ entryOk .gate [0, 34, 64] = true ∧
    entryOk .gate [0, 34, 0] = false := by decide +kernel

theorem witness_LoaderEvents :
    State.reset.boot = .starting .busyWait ∧ ready.boot = .ready ∧ stored.boot = .ready ∧
    (withImage imageBytes).toPart.loaderNext .busyWait =
      .burst .gate 0 [[0, 0, 2], [0, 2, 2], [0, 4, 4], [0, 10, 8], [0, 18, 16], [0, 34, 64]] 26 2 1 ∧
    State.reset.toPart.loaderNext .busyWait = loaderEmpty ∧ State.reset.store.ident ≠ 0xFFFFFF ∧
    (withImage imageBytes).head = .unverified ∧ State.reset.head ≠ .unverified ∧
    (after (.storeReload 1 []) stored).boot = .reloading .busyWait ∧ (∀ k : Fin 4, stored.runs[k].state = .idle) ∧
    (∀ b : Fin 8, stored.banks[b].state = .free) ∧ (∃ k : Fin 4, (firing 0 2).runs[k].state ≠ .idle) := by decide +kernel

end Sys2Proof.Tests
end

/-! Rounding (R79): the error of a rounded quotient. The two divisor bounds on (2a + b) / (2b) give it for a numerator that
is not negative; the symmetry in the sign carries it to the others. -/

namespace Sys2Proof.Machine

theorem roundDiv_zero (b : Nat) : roundDiv 0 b = 0 := by
  have hzero : (2 * (0 : Int).natAbs + b) / (2 * b) = 0 := by
    rw [Nat.div_eq_zero_iff]; simp only [Int.natAbs_zero]; omega
  rw [← Int.natAbs_eq_zero, roundDiv_natAbs, hzero]

/-- The symmetry of R79 for every numerator, 0 included. -/
theorem roundDiv_neg_eq (a : Int) (b : Nat) : roundDiv (-a) b = -roundDiv a b := by
  by_cases ha : a = 0
  · simp [ha, roundDiv_zero]
  · exact roundDiv_neg a b ha

theorem roundDiv_nonpos {a : Int} (b : Nat) (h : a ≤ 0) : roundDiv a b ≤ 0 := by
  have hneg := roundDiv_nonneg b (Int.neg_nonneg_of_nonpos h)
  rw [roundDiv_neg_eq] at hneg
  omega

/-- A numerator that is not negative is rounded down by less than half the divisor and up by at most half of it: the two
bounds differ at a tie only, which goes up. -/
theorem roundDiv_error_of_nonneg {a : Int} {b : Nat} (ha : 0 ≤ a) (hb : 1 ≤ b) :
    2 * (a - b * roundDiv a b) < b ∧ 2 * (b * roundDiv a b - a) ≤ b := by
  obtain ⟨n, rfl⟩ := Int.eq_ofNat_of_zero_le ha
  obtain ⟨m, hm⟩ := Int.eq_ofNat_of_zero_le (roundDiv_nonneg b ha)
  have hmag : m = (2 * n + b) / (2 * b) := by
    simpa [hm] using roundDiv_natAbs n b
  have hlow : 2 * (b * m) ≤ 2 * n + b := by
    rw [hmag, ← Nat.mul_assoc]; exact Nat.mul_div_le _ _
  have hhigh : 2 * n + b < 2 * (b * m) + 2 * b := by
    rw [hmag, ← Nat.mul_assoc]; exact Nat.lt_mul_div_succ _ (by omega)
  rw [hm, ← Int.natCast_mul]
  omega

/-- A rounded quotient is a nearest integer, and at a tie it lies farther from zero than the numerator (R79). -/
theorem roundDiv_nearest (a : Int) {b : Nat} (hb : 1 ≤ b) :
    2 * (a - b * roundDiv a b).natAbs ≤ b ∧
    (2 * (a - b * roundDiv a b).natAbs = b → a.natAbs < (b * roundDiv a b).natAbs) := by
  rcases Int.le_total 0 a with ha | ha
  · obtain ⟨hdown, hup⟩ := roundDiv_error_of_nonneg ha hb
    omega
  · obtain ⟨hdown, hup⟩ := roundDiv_error_of_nonneg (Int.neg_nonneg_of_nonpos ha) hb
    rw [roundDiv_neg_eq, Int.mul_neg] at hdown hup
    omega

/-- Settles O5: magnitude and signs from the rules about roundDiv, the error from roundDiv_nearest. -/
theorem roundingIsNearest : Obligations.RoundingIsNearest := by
  intro a b hb
  exact ⟨roundDiv_natAbs a b, roundDiv_nonneg b, roundDiv_nonpos b, roundDiv_neg_eq a b, roundDiv_nearest a hb⟩

end Sys2Proof.Machine

/-! The commands of the station link that act at once in either part state: PING (R149), CLEAR_STATUS (R157) and SET_NOTICES
(R158). Each row at a free unit comes to its owner's operation on the part, and each operation to one reply. -/

namespace Sys2Proof.Machine

/-- The part state byte of a reply. -/
theorem Part.partState_code (p : Part) : p.partState.code = if p.boot = .ready then 1 else 0 := by
  unfold Part.partState
  split
  · next h => rw [if_pos h]; rfl
  · next h => rw [if_neg h]; rfl

/-! ### Fields of a payload -/

/-- A big-endian field of two bytes holds their concatenation. -/
theorem ofBe_pair (a b : Byte) : ofBe [a, b] = (a ++ b : BitVec 16).toNat := by
  have hb : b.toNat < 2 ^ 8 := b.isLt
  rw [BitVec.toNat_append, Nat.shiftLeft_eq, Nat.mul_comm, ← Nat.two_pow_add_eq_or_of_lt hb]
  simp [ofBe, Nat.mul_comm]

@[simp] theorem maskField_pair (a b : Byte) : maskField [a, b] = (a ++ b : BitVec 16) := by
  rw [maskField, ofBe_pair, BitVec.ofNat_toNat, BitVec.setWidth_eq]

/-- The third byte of a payload as a field. -/
theorem field_third (a b g : Byte) : field [a, b, g] 2 1 = g.toNat := by
  simp [field, ofBe]

theorem byte_toNat_eq_one_iff (g : Byte) : g.toNat = 1 ↔ g = 1 :=
  ⟨fun h => BitVec.eq_of_toNat_eq h, fun h => h ▸ rfl⟩

/-! ### The rows at a free unit -/

section
variable {s : State} (h : s.takesAtOnce = true)
include h

theorem exec_ping_free (tag : Byte) (data : List Byte) :
    exec (.ping tag data) s = .next { s with toPart := s.takePing { kind := 0x01, tag := tag, payload := data } } :=
  deliver_carryOut h (k := .ping) rfl rfl (.inr rfl) (.inl rfl)

theorem exec_clearStatus_free (tag a b : Byte) :
    exec (.clearStatus tag [a, b]) s =
      .next { s with toPart := s.takeClearStatus { kind := 0x03, tag := tag, payload := [a, b] } } :=
  deliver_carryOut h (k := .clearStatus) rfl rfl (.inr rfl) (.inr rfl)

theorem exec_setNotices_free (tag a b g : Byte) :
    exec (.setNotices tag [a, b, g]) s =
      .next { s with toPart := s.takeSetNotices { kind := 0x04, tag := tag, payload := [a, b, g] } } :=
  deliver_carryOut h (k := .setNotices) rfl rfl (.inr rfl) (.inr rfl)

end

/-! ### What each operation comes to -/

section
variable (p : Part) {c : Command}

theorem Part.takePing_of_le (h : c.payload.length ≤ 32) :
    p.takePing c = p.answer c .ok ((if p.boot = .ready then 1 else 0) :: c.payload) := by
  rw [Part.takePing, if_neg (Nat.not_lt.mpr h), p.partState_code]

theorem Part.takePing_of_lt (h : 32 < c.payload.length) : p.takePing c = p.answer c .badParam [] :=
  if_pos h

/-- The flags named by the two bytes clear (R157). -/
theorem Part.takeClearStatus_of_payload {a b : Byte} (hc : c.payload = [a, b]) :
    p.takeClearStatus c =
      Part.answer { p with status := { p.status with flags := p.status.flags &&& ~~~(a ++ b : BitVec 16) } } c .ok
        (be 2 (p.status.flags &&& ~~~(a ++ b : BitVec 16)).toNat) := by
  rw [Part.takeClearStatus, hc, maskField_pair, beMask]

/-- The enables and the global enable are written together (R158). -/
theorem Part.takeSetNotices_of_le {a b g : Byte} (hc : c.payload = [a, b, g]) (hg : g.toNat ≤ 1) :
    p.takeSetNotices c =
      Part.answer { p with status := { p.status with enables := (a ++ b : BitVec 16), global := decide (g = 1) } }
        c .ok [] := by
  have hmask : maskField (c.payload.take 2) = (a ++ b : BitVec 16) := by rw [hc]; exact maskField_pair a b
  rw [Part.takeSetNotices, hmask, hc, field_third, if_neg (Nat.not_lt.mpr hg)]
  simp only [byte_toNat_eq_one_iff]

/-- A global enable above 1 refuses the whole command (R158). -/
theorem Part.takeSetNotices_of_lt {a b g : Byte} (hc : c.payload = [a, b, g]) (hg : 1 < g.toNat) :
    p.takeSetNotices c = p.answer c .badParam [] := by
  rw [Part.takeSetNotices, hc, field_third, if_pos hg]

end

/-! ### The obligations -/

/-- Settles O15: the row at a free unit is takePing, which answers by the length of the payload. -/
theorem pingAnswers : Obligations.PingAnswers := by
  intro tag data s hfree
  rw [exec_ping_free hfree]
  constructor
  · intro hlen; rw [Part.takePing_of_le _ hlen]; rfl
  · intro hlen; rw [Part.takePing_of_lt _ hlen]; rfl

/-- Settles O19: the rows at a free unit are takeClearStatus and takeSetNotices, the second split at a global enable of 1. -/
theorem clearStatusSetNotices : Obligations.ClearStatusSetNotices := by
  intro tag a b g s hfree
  rw [exec_clearStatus_free hfree, exec_setNotices_free hfree]
  refine ⟨?_, fun hg => ?_, fun hg => ?_⟩
  · rw [Part.takeClearStatus_of_payload _ rfl]; rfl
  · rw [Part.takeSetNotices_of_le _ rfl hg]; rfl
  · rw [Part.takeSetNotices_of_lt _ rfl hg]; rfl

end Sys2Proof.Machine

/-! The outbound side: what raising flags and placing reports and profiles can do. They change the sources, the flags and the frame
on the wire, keep the replies in their order, and leave no source waiting at an IDLE scheduler. -/

namespace Sys2Proof.Machine

/-! ### The sources and the frame on the wire -/

/-- The REPORT queue keeps its capacity, and the profile out slot is marked as being sent exactly while a PROFILE frame is on the
wire (R92, R132). -/
def Part.slotFits (p : Part) : Prop :=
  p.link.reports.length ≤ 2 ∧ (p.engine.slot = .sending ↔ p.link.sendsProfile = true)

/-- An IDLE scheduler has no source to send from (R153). -/
def Part.sourcesFit (p : Part) : Prop :=
  p.slotFits ∧
    (p.link.sending = none → p.link.replies = [] ∧ p.status.pendingSet = 0 ∧ p.link.reports = [] ∧ p.engine.slot = .empty)

/-- What the outbound side keeps: the replies out and their order, the room for a reply, and the agreement of sources, slot and
wire, in which no reply is begun. -/
structure Part.Sends (p q : Part) : Prop where
  repliesOut : q.link.repliesOut = p.link.repliesOut
  room : q.link.replies.length ≤ p.link.replies.length
  fits : p.sourcesFit → q.sourcesFit ∧ q.link.replies = p.link.replies

theorem Part.Sends.refl (p : Part) : p.Sends p := ⟨rfl, Nat.le_refl _, fun h => ⟨h, rfl⟩⟩

theorem Part.Sends.trans {p q r : Part} (h : p.Sends q) (h' : q.Sends r) : p.Sends r where
  repliesOut := h'.repliesOut.trans h.repliesOut
  room := Nat.le_trans h'.room h.room
  fits hp := by
    obtain ⟨hq, he⟩ := h.fits hp
    obtain ⟨hr, he'⟩ := h'.fits hq
    exact ⟨hr, he'.trans he⟩

/-! ### Beginning a frame -/

/-- A frame begun takes the oldest reply onto the wire or leaves the replies alone (R152). -/
theorem Part.kick_repliesOut (p : Part) : p.kick.link.repliesOut = p.link.repliesOut := by
  unfold Part.kick
  split
  · next hs =>
    unfold Part.beginFrame
    split
    · next r rest hr => simp [Link.repliesOut, Reply.frame, hs, hr]
    · next hr =>
      split
      · simp [Link.repliesOut, noticeFrame, noticeKind, replyKind, hs, hr]
      · split
        · simp [Link.repliesOut, Report.frame, reportKind, replyKind, hs, hr]
        · split
          · simp [Link.repliesOut, Profile.frame, profileKind, replyKind, hs, hr]
          · rfl
  · rfl

theorem Part.kick_replies_length (p : Part) : p.kick.link.replies.length ≤ p.link.replies.length := by
  unfold Part.kick
  split
  · unfold Part.beginFrame
    split
    · next r rest h => simp [h]
    · next h =>
      repeat' split
      all_goals simp [h]
  · exact Nat.le_refl _

/-- With no reply waiting at an IDLE scheduler no reply is begun. -/
theorem Part.kick_replies (p : Part) (h : p.link.sending = none → p.link.replies = []) :
    p.kick.link.replies = p.link.replies := by
  unfold Part.kick
  split
  · next hs =>
    unfold Part.beginFrame
    rw [h hs]
    dsimp only
    repeat' split
    all_goals exact h hs
  · rfl

/-- A scheduler that has looked at its sources leaves none waiting (R153). -/
theorem Part.kick_fits {p : Part} (h : p.slotFits) : p.kick.sourcesFit := by
  obtain ⟨hreports, hslot⟩ := h
  unfold Part.kick
  split
  · next hs =>
    have hne : p.engine.slot ≠ .sending := by simp [hslot, Link.sendsProfile, hs]
    unfold Part.beginFrame
    split
    · exact ⟨⟨hreports, by simpa [Link.sendsProfile, Reply.frame, replyKind, profileKind] using hne⟩, nofun⟩
    · next hr =>
      split
      · exact ⟨⟨hreports, by simpa [Link.sendsProfile, noticeFrame, noticeKind, profileKind] using hne⟩, nofun⟩
      · next hn =>
        split
        · next r rest he =>
          refine ⟨⟨?_, by simpa [Link.sendsProfile, Report.frame, reportKind, profileKind] using hne⟩, nofun⟩
          rw [he] at hreports
          exact Nat.le_of_succ_le hreports
        · next he =>
          split
          · exact ⟨⟨hreports, by simp [Link.sendsProfile, Profile.frame]⟩, nofun⟩
          · next hw =>
            refine ⟨⟨hreports, hslot⟩, fun _ => ⟨hr, by simpa using hn, he, ?_⟩⟩
            cases hp : p.engine.slot with
            | empty => rfl
            | waiting q => exact absurd hp (hw q)
            | sending => exact absurd hp hne
  · next f hs => exact ⟨⟨hreports, hslot⟩, fun h => by rw [hs] at h; cases h⟩

/-- A part whose queues of replies and wire are those of `p`, once its scheduler has looked at its sources. -/
theorem Part.Sends.kick {p q : Part} (hsend : q.link.sending = p.link.sending) (hreplies : q.link.replies = p.link.replies)
    (hslot : p.sourcesFit → q.slotFits) : p.Sends q.kick where
  repliesOut := by rw [q.kick_repliesOut, Link.repliesOut, Link.repliesOut, hsend, hreplies]
  room := by rw [← hreplies]; exact q.kick_replies_length
  fits hp := by
    refine ⟨Part.kick_fits (hslot hp), ?_⟩
    rw [q.kick_replies fun hs => ?_, hreplies]
    rw [hreplies]
    exact (hp.2 (hsend ▸ hs)).1

/-! ### The part but for its outbound side -/

/-- The part `p` with the sources, the flags and the frame on the wire of `r`. -/
def Part.withOutbound (p r : Part) : Part :=
  { p with
    link := { p.link with replies := r.link.replies, reports := r.link.reports, sending := r.link.sending }
    status := { p.status with flags := r.status.flags, pendingSet := r.status.pendingSet }
    engine := { p.engine with slot := r.engine.slot, skipped := r.engine.skipped } }

/-- `q` is `p` but for the outbound side, which has gone on as it may. -/
structure Part.Like (p q : Part) : Prop where
  core : ∃ r, q = p.withOutbound r
  sends : p.Sends q

theorem Part.Like.refl (p : Part) : p.Like p := ⟨⟨p, rfl⟩, .refl p⟩

theorem Part.Like.trans {p q r : Part} (h : p.Like q) (h' : q.Like r) : p.Like r := by
  refine ⟨?_, h.sends.trans h'.sends⟩
  obtain ⟨a, rfl⟩ := h.core
  obtain ⟨b, rfl⟩ := h'.core
  exact ⟨b, rfl⟩

/-- What does not read the outbound side is kept. -/
theorem Part.Like.keeps {P : Part → Prop} {p q : Part} (h : p.Like q) (hp : ∀ r, P (p.withOutbound r)) : P q := by
  obtain ⟨r, rfl⟩ := h.core
  exact hp r

/-- An update of the blocks behind the outbound side, made to two parts that differ in the outbound side alone. -/
theorem Part.Like.update {p q p' q' : Part} (h : p.Like q) (hcore : ∀ r, q = p.withOutbound r → q' = p'.withOutbound r)
    (hlink : p'.link = p.link) (hstatus : p'.status = p.status) (hslot : p'.engine.slot = p.engine.slot) : p'.Like q' := by
  obtain ⟨r, hq⟩ := h.core
  have hq' := hcore r hq
  obtain ⟨hout, hroom, hfits⟩ := h.sends
  refine ⟨⟨r, hq'⟩, ?_⟩
  subst hq hq'
  refine ⟨?_, ?_, ?_⟩
  · rw [hlink, ← hout, Part.withOutbound, Part.withOutbound, hlink]
  · rw [hlink]; exact hroom
  · intro hp
    simp only [Part.sourcesFit, Part.slotFits, Part.withOutbound, hlink, hstatus, hslot] at hp hfits ⊢
    exact hfits hp

theorem Part.kick_like {p q : Part} (hcore : q = p.withOutbound q) (hsend : q.link.sending = p.link.sending)
    (hreplies : q.link.replies = p.link.replies) (hslot : p.sourcesFit → q.slotFits) : p.Like q.kick := by
  refine ⟨⟨q.kick, ?_⟩, .kick hsend hreplies hslot⟩
  rw [q.kick_frame, hcore]
  rfl

theorem Part.raise_like (p : Part) (f : Flag) : p.Like (p.raise f) := by
  unfold Part.raise
  split
  · exact .refl p
  · split
    · exact Part.kick_like rfl rfl rfl fun h => h.1
    · next hn => exact ⟨⟨{ p with status := { p.status with flags := p.status.flags ||| f.mask } }, rfl⟩, rfl, Nat.le_refl _,
        fun h => ⟨h, rfl⟩⟩

theorem Part.placeReport_like (p : Part) (r : Report) : p.Like (p.placeReport r) := by
  unfold Part.placeReport
  split
  · next hlen => exact Part.kick_like rfl rfl rfl fun h => ⟨by simpa using hlen, h.1.2⟩
  · next hlen =>
    refine .trans ?_ (Part.raise_like _ _)
    refine Part.kick_like rfl rfl rfl fun h => ⟨?_, h.1.2⟩
    have hcap := h.1.1
    simp only [List.length_append, List.length_drop, List.length_singleton]
    omega

theorem Part.offerProfile_like (p : Part) (q : Profile) : p.Like (p.offerProfile q) := by
  unfold Part.offerProfile
  split
  · next hs =>
    refine Part.kick_like rfl rfl rfl fun h => ⟨h.1.1, ?_⟩
    have := h.1.2
    simpa [hs] using this
  · refine .trans ?_ (Part.raise_like _ _)
    exact ⟨⟨{ p with engine := { p.engine with skipped := min (p.engine.skipped + 1) 255 } }, rfl⟩, rfl, Nat.le_refl _,
      fun h => ⟨h, rfl⟩⟩

theorem Part.causeEdge_like (before p : Part) : p.Like (Part.causeEdge before p) := by
  rcases Part.causeEdge_eq before p with h | ⟨-, -, h⟩ <;> rw [h]
  · exact .refl p
  · exact p.raise_like _

end Sys2Proof.Machine

/-! What the shared operations come to but for the outbound side: an operation that raises flags is one that does not, up to them. -/

namespace Sys2Proof.Machine

/-! ### The end of a shot -/

/-- The bucket after a shot end (R9). -/
def Part.chargedBucket (p : Part) (energy : Option Nat) : Nat :=
  match p.pendingCharge with
  | none => p.bucket
  | some charge => min (p.bucket + energy.getD charge) Config.bucketMax

/-- E is above the pending charge (R10). -/
def Part.overCharged (p : Part) (energy : Option Nat) : Bool :=
  match p.pendingCharge with
  | none => false
  | some charge => decide (charge < energy.getD charge)

/-- The part after the Emission Monitor has taken a shot end (R9, R10), without the flags. -/
def Part.charged (p : Part) (energy : Option Nat) : Part :=
  { p with bucket := p.chargedBucket energy, overEnergy := p.overEnergy || p.overCharged energy, pendingCharge := none }

theorem Part.chargeShot_like (p : Part) (energy : Option Nat) : (p.charged energy).Like (p.chargeShot energy) := by
  cases hc : p.pendingCharge with
  | none =>
    have h1 : p.chargeShot energy = p := by simp [Part.chargeShot, hc]
    have h2 : p.charged energy = p := by
      simp only [Part.charged, Part.chargedBucket, Part.overCharged, hc, Bool.or_false]
      rw [← hc]
    rw [h1, h2]
    exact .refl p
  | some charge =>
    have hq : p.charged energy = { p.pour (energy.getD charge) with
        overEnergy := p.overEnergy || decide (charge < energy.getD charge), pendingCharge := none } := by
      simp only [Part.charged, Part.chargedBucket, Part.overCharged, hc, Part.pour]
    rw [hq]
    simp only [Part.chargeShot, hc]
    cases ho : p.overEnergy <;> by_cases he : charge < energy.getD charge <;>
      simp only [he, decide_true, decide_false, Bool.not_true, Bool.not_false, Bool.and_true, Bool.and_false, Bool.or_true,
        Bool.or_false, if_true, Bool.false_eq_true, if_false]
    · exact (Part.raise_like _ _).trans (Part.causeEdge_like _ _)
    · rw [← ho]; exact .refl _
    · rw [← ho]; exact .refl _
    · rw [← ho]; exact .refl _

/-- The bucket, the latch and the charge are not the outbound side. -/
theorem Part.Like.charged {p q : Part} (h : p.Like q) (energy : Option Nat) : (p.charged energy).Like (q.charged energy) :=
  h.update (by rintro r rfl; rfl) rfl rfl rfl

theorem Part.Like.chargeShot {p q : Part} (h : p.Like q) (energy : Option Nat) :
    (p.charged energy).Like (q.chargeShot energy) :=
  (h.charged energy).trans (q.chargeShot_like energy)

theorem Part.Like.setLastEnd {p q : Part} (h : p.Like q) (e : ShotEnd) : (p.setLastEnd e).Like (q.setLastEnd e) :=
  h.update (by rintro r rfl; rfl) rfl rfl rfl

/-- The part after a rejected shot end, without the flags (R49, R52). -/
def Part.rejected (p : Part) (s : Shot) (reason : ShotReason) (tag : Option Byte) (energy : Option Nat) : Part :=
  ((if s.abandoned then p.removeShot else p.removeShot.countRejected s.target).charged energy).setLastEnd
    (s.ended .rejected reason tag energy)

theorem Part.rejectShot_like (p : Part) (s : Shot) (reason : ShotReason) (tag : Option Byte) (energy : Option Nat) :
    (p.rejected s reason tag energy).Like (p.rejectShot s reason tag energy) := by
  unfold Part.rejected Part.rejectShot
  cases s.abandoned with
  | true => exact (((Part.Like.refl _).chargeShot energy).setLastEnd _).trans (Part.raise_like _ _)
  | false => exact ((Part.raise_like _ _).chargeShot energy).setLastEnd _

theorem Part.Like.rejected {p q : Part} (h : p.Like q) (s : Shot) (reason : ShotReason) (tag : Option Byte)
    (energy : Option Nat) : (p.rejected s reason tag energy).Like (q.rejected s reason tag energy) := by
  unfold Part.rejected
  cases s.abandoned <;> exact h.update (by rintro r rfl; rfl) rfl rfl rfl

/-- The part whose shot in flight, if there is one, has ended rejected (R43, R55), without the flags. -/
def Part.shotLost (p : Part) (reason : ShotReason) : Part :=
  match p.shot with
  | some s => p.rejected s reason none none
  | none => p

theorem Part.loseShot_like (p : Part) (reason : ShotReason) : (p.shotLost reason).Like (p.loseShot reason) := by
  cases hs : p.shot with
  | some s => simpa only [Part.shotLost, Part.loseShot, hs] using p.rejectShot_like s reason none none
  | none => simpa only [Part.shotLost, Part.loseShot, hs] using Part.Like.refl p

theorem Part.rejected_frame (p : Part) (s : Shot) (reason : ShotReason) (tag : Option Byte) (energy : Option Nat) :
    p.rejected s reason tag energy = { p with
      shot := none
      bucket := p.chargedBucket energy
      overEnergy := p.overEnergy || p.overCharged energy
      pendingCharge := none
      port := { p.port with timer := none, rx := p.port.rx.unbind, lastEnd := some (s.ended .rejected reason tag energy) }
      banks := if s.abandoned then p.banks else (p.countRejected s.target).banks } := by
  unfold Part.rejected
  cases s.abandoned <;> rfl

/-- With a shot in flight or without, what a lost shot changes. -/
theorem Part.shotLost_frame (p : Part) (reason : ShotReason) :
    p.shotLost reason = { p with
      shot := none
      bucket := (p.shotLost reason).bucket
      overEnergy := (p.shotLost reason).overEnergy
      pendingCharge := (p.shotLost reason).pendingCharge
      port := (p.shotLost reason).port
      banks := (p.shotLost reason).banks } := by
  cases hs : p.shot with
  | some s => simp only [Part.shotLost, hs, Part.rejected_frame]
  | none => simp only [Part.shotLost, hs]; rw [← hs]

/-- Loss of lock (R43), without the flags. -/
theorem Part.loseLock_like (p : Part) :
    (((p.setLock (.unlocked 0)).setRx .off).shotLost .lost).Like
      ((((p.setLock (.unlocked 0)).raise .lockChange).setRx .off).loseShot .lost) := by
  have hrx : ((p.setLock (.unlocked 0)).setRx .off).Like (((p.setLock (.unlocked 0)).raise .lockChange).setRx .off) :=
    ((p.setLock (.unlocked 0)).raise_like .lockChange).update (by rintro r h; rw [h]; rfl) rfl rfl rfl
  refine .trans ?_ (Part.loseShot_like _ _)
  unfold Part.shotLost
  rw [show (((p.setLock (.unlocked 0)).raise .lockChange).setRx .off).shot = p.shot by simp,
    show ((p.setLock (.unlocked 0)).setRx .off).shot = p.shot from rfl]
  cases p.shot with
  | some s => exact hrx.rejected s _ _ _
  | none => exact hrx

theorem Part.gainLock_like (p : Part) :
    ((p.setLock (.locked 0)).setRx (.settle 0)).Like (((p.setLock (.locked 0)).raise .lockChange).setRx (.settle 0)) :=
  ((p.setLock (.locked 0)).raise_like .lockChange).update (by rintro r h; rw [h]; rfl) rfl rfl rfl

theorem Part.endAbandoned_like (p : Part) (s : Shot) (r : Record) :
    ((p.removeShot.charged (some r.energy)).setLastEnd
      (s.ended .abandoned .stop (some r.tag) (some r.energy))).Like (p.endAbandoned s r) :=
  ((Part.Like.refl _).chargeShot _).setLastEnd _

/-! ### Terminal count -/

/-- What a campaign does after its bank has closed (R33, R34), without the flags. -/
def Part.goesOn (p : Part) (k : Fin 4) : Part :=
  match p.campTable[k].repeats with
  | .once => p
  | .continuous => p.openOrWait k

/-- The remaining count goes down by one, with terminal count at 0 (R32, R33), without the flags. -/
def Part.countedDown (p : Part) (k : Fin 4) : Part :=
  match p.runs[k].state with
  | .active odd =>
    if p.runs[k].remaining ≤ 1 then (p.closeBank k (bankOf k odd)).goesOn k
    else p.setRun k { p.runs[k] with remaining := p.runs[k].remaining - 1 }
  | _ => p

theorem Part.noteWait_like (p : Part) (k : Fin 4) : p.Like (p.noteWait k) := by
  unfold Part.noteWait
  split
  · exact p.raise_like _
  · exact .refl p

theorem Part.afterClose_like (p : Part) (k : Fin 4) : (p.goesOn k).Like (p.afterClose k) := by
  unfold Part.goesOn Part.afterClose
  cases p.campTable[k].repeats with
  | once => exact p.raise_like _
  | continuous => exact Part.noteWait_like _ _

theorem Part.countDown_like (p : Part) (k : Fin 4) : (p.countedDown k).Like (p.countDown k) := by
  unfold Part.countedDown Part.countDown
  cases p.runs[k].state with
  | active odd =>
    dsimp only
    split
    · exact Part.afterClose_like _ k
    · exact .refl _
  | idle | waitBank => exact .refl p

/-- Opening a bank or waiting for one changes the banks and the run states only (R24, R34). -/
theorem Part.openOrWait_frame (p : Part) (k : Fin 4) :
    p.openOrWait k = { p with runs := (p.openOrWait k).runs, banks := (p.openOrWait k).banks } := by
  unfold Part.openOrWait
  dsimp only
  split <;> rfl

theorem Part.openOrWait_withOutbound (p r : Part) (k : Fin 4) :
    (p.withOutbound r).openOrWait k = (p.openOrWait k).withOutbound r := by
  unfold Part.openOrWait
  dsimp only
  have hside : ∀ x, Part.freeSide ((p.withOutbound r).setRun k x) k = Part.freeSide (p.setRun k x) k := fun _ => rfl
  rw [hside, show (p.withOutbound r).runs = p.runs from rfl, show (p.withOutbound r).campTable = p.campTable from rfl]
  cases Part.freeSide (p.setRun k { p.runs[k] with remaining := p.campTable[k].shots }) k <;> rfl

/-- Beginning a bank changes the banks and the engine's hand, queue and last E_ref only (R74, R75). -/
theorem Part.beginNext_frame (p : Part) :
    p.beginNext = { p with
      banks := p.beginNext.banks
      engine := { p.engine with inHand := p.beginNext.engine.inHand, queue := p.beginNext.engine.queue
                                lastERef := p.beginNext.engine.lastERef } } := by
  unfold Part.beginNext
  split
  · dsimp only
    split <;> rfl
  · rfl

theorem Part.beginNext_withOutbound (p r : Part) : (p.withOutbound r).beginNext = p.beginNext.withOutbound r := by
  unfold Part.beginNext
  rw [show (p.withOutbound r).engine.inHand = p.engine.inHand from rfl,
    show (p.withOutbound r).engine.queue = p.engine.queue from rfl, show (p.withOutbound r).banks = p.banks from rfl]
  split
  · next b rest _ _ =>
    dsimp only
    cases p.banks[b].settings.kind <;> rfl
  · rfl

/-- Closing a bank changes its campaign, the banks and the engine's hand, queue and last E_ref only (R70). -/
theorem Part.closeBank_frame (p : Part) (k : Fin 4) (b : Fin 8) :
    p.closeBank k b = { p with
      banks := (p.closeBank k b).banks
      runs := p.runs.set k { p.runs[k] with
        state := .idle, remaining := 0, sequence := (p.runs[k].sequence + 1) % 65536 }
      engine := { p.engine with inHand := (p.closeBank k b).engine.inHand, queue := (p.closeBank k b).engine.queue
                                lastERef := (p.closeBank k b).engine.lastERef } } := by
  unfold Part.closeBank
  dsimp only
  rw [Part.beginNext_frame]
  rfl

theorem Part.closeBank_withOutbound (p r : Part) (k : Fin 4) (b : Fin 8) :
    (p.withOutbound r).closeBank k b = (p.closeBank k b).withOutbound r := by
  unfold Part.closeBank
  dsimp only
  rw [← Part.beginNext_withOutbound]
  rfl

theorem Part.countedDown_frame (p : Part) (k : Fin 4) :
    p.countedDown k = { p with
      banks := (p.countedDown k).banks
      runs := (p.countedDown k).runs
      engine := { p.engine with inHand := (p.countedDown k).engine.inHand, queue := (p.countedDown k).engine.queue
                                lastERef := (p.countedDown k).engine.lastERef } } := by
  unfold Part.countedDown
  split
  · split
    · unfold Part.goesOn
      split
      · rw [Part.closeBank_frame]
      · rw [Part.openOrWait_frame, Part.closeBank_frame]
    · rfl
  · rfl

theorem Part.goesOn_withOutbound (p r : Part) (k : Fin 4) : (p.withOutbound r).goesOn k = (p.goesOn k).withOutbound r := by
  unfold Part.goesOn
  rw [show (p.withOutbound r).campTable = p.campTable from rfl]
  cases p.campTable[k].repeats with
  | once => rfl
  | continuous => exact Part.openOrWait_withOutbound p r k

theorem Part.countedDown_withOutbound (p r : Part) (k : Fin 4) :
    (p.withOutbound r).countedDown k = (p.countedDown k).withOutbound r := by
  unfold Part.countedDown
  rw [show (p.withOutbound r).runs = p.runs from rfl]
  cases p.runs[k].state with
  | idle | waitBank => rfl
  | active odd =>
    dsimp only
    split
    · rw [Part.closeBank_withOutbound, Part.goesOn_withOutbound]
    · rfl

/-- The part after an accepted shot end (R53), without the flags. -/
def Part.accepted (p : Part) (s : Shot) (r : Record) : Part :=
  (((p.removeShot.charged (some r.energy)).accumulate s r).countedDown s.campaign).setLastEnd
    (s.ended .accepted .none (some r.tag) (some r.energy))

theorem Part.acceptShot_like (p : Part) (s : Shot) (r : Record) : (p.accepted s r).Like (p.acceptShot s r) := by
  unfold Part.accepted Part.acceptShot
  refine (Part.Like.trans ?_ (Part.countDown_like _ _)).setLastEnd _
  refine (p.removeShot.chargeShot_like (some r.energy)).update (fun q hq => ?_) ?_ ?_ ?_
  · rw [hq]
    rw [← Part.countedDown_withOutbound]
    rfl
  · rw [Part.countedDown_frame]; rfl
  · rw [Part.countedDown_frame]; rfl
  · rw [Part.countedDown_frame]; rfl

theorem Part.accepted_frame (p : Part) (s : Shot) (r : Record) :
    p.accepted s r = { p with
      shot := none
      bucket := p.chargedBucket (some r.energy)
      overEnergy := p.overEnergy || p.overCharged (some r.energy)
      pendingCharge := none
      port := { p.port with timer := none, rx := p.port.rx.unbind
                            lastEnd := some (s.ended .accepted .none (some r.tag) (some r.energy)) }
      banks := (p.accepted s r).banks
      runs := (p.accepted s r).runs
      engine := { p.engine with inHand := (p.accepted s r).engine.inHand, queue := (p.accepted s r).engine.queue
                                lastERef := (p.accepted s r).engine.lastERef } } := by
  unfold Part.accepted
  rw [Part.countedDown_frame]
  rfl

/-! ### WARM_RESTART -/

/-- A shot end without energy adds the charge and latches nothing (R9, R10). -/
theorem Part.chargeShot_none (p : Part) :
    p.chargeShot none = { p with
      bucket := match p.pendingCharge with | some c => min (p.bucket + c) 16777215 | none => p.bucket
      pendingCharge := none } := by
  unfold Part.chargeShot
  cases h : p.pendingCharge with
  | none => simp only [← h]
  | some c => simp [Part.pour, Config.bucketMax]

/-- The part after WARM_RESTART's shot end (R39, R40): no flag rises. -/
theorem Part.restartShot_frame (p : Part) :
    p.restartShot = { p with
      shot := p.restartShot.shot, bucket := p.restartShot.bucket, pendingCharge := p.restartShot.pendingCharge
      port := p.restartShot.port } := by
  unfold Part.restartShot
  split
  · rw [Part.chargeShot_none]; rfl
  · rfl

/-! ### Profile complete -/

/-- Freeing a bank changes the banks and the run states only (R35, R71). -/
theorem Part.freeBank_frame (p : Part) (b : Fin 8) :
    p.freeBank b = { p with banks := (p.freeBank b).banks, runs := (p.freeBank b).runs } := by
  unfold Part.freeBank
  dsimp only
  split <;> rfl

/-! ### Loads -/

/-- The part with the entries of an accepted load written (R150), without the flags. -/
def Part.written (p : Part) (t : TableId) (start : Nat) (es : List (List Byte)) : Part :=
  match t with
  | .head => { p with headTable := putRun p.headTable start (es.map headRowOf) }
  | t => p.writeEntries t start es

theorem Part.writeEntries_like (p : Part) (t : TableId) (start : Nat) (es : List (List Byte)) :
    (p.written t start es).Like (p.writeEntries t start es) := by
  cases t with
  | head => exact Part.causeEdge_like _ _
  | gate | bins | corr | thresh | cadence | arb | camp | finder | tracker => exact .refl _

/-- The effects of a GATE or BINS load beside its entries (R60, R63, R87). -/
theorem Part.gateLoaded_eq (p : Part) :
    p.gateLoaded = { p with
      gates := { p.gates with generation := (p.gates.generation + 1) % 256 }
      engine := { p.engine with dark := { p.engine.dark with
        state := if p.engine.dark.state = .none then .none else .stale } } } := by
  unfold Part.gateLoaded Part.staleDark
  dsimp only
  cases hs : p.engine.dark.state with
  | none => rw [if_neg (by decide), if_pos rfl, ← hs]
  | valid => rfl
  | stale => rw [if_neg (by decide), if_neg (by decide), ← hs]

/-- A load changes the tables, the generator, the arbiter and the dark reference only. -/
theorem Part.written_frame (p : Part) (t : TableId) (start : Nat) (es : List (List Byte)) :
    p.written t start es = { p with
      cadence := (p.written t start es).cadence
      gen := (p.written t start es).gen
      headTable := (p.written t start es).headTable
      campTable := (p.written t start es).campTable
      arb := (p.written t start es).arb
      gates := (p.written t start es).gates
      corr := (p.written t start es).corr
      thresh := (p.written t start es).thresh
      finder := (p.written t start es).finder
      tracker := (p.written t start es).tracker
      engine := { p.engine with dark := (p.written t start es).engine.dark } } := by
  cases t with
  | gate | bins => simp only [Part.written, Part.writeEntries, Part.gateLoaded_eq]
  | head | corr | thresh | cadence | arb | camp | finder | tracker => rfl

/-! ### Profile complete, from the freeing of the bank on -/

/-- A deferred command applied (R89), without its reply. -/
def Part.deferredDone (p : Part) : Part :=
  match p.link.held with
  | some (.deferredLoad c t) => p.release.written t (loadStart c) (loadEntries c t)
  | some (.deferredClear _) => p.release.clearTracks
  | _ => p

theorem Part.placeReply_core (p : Part) (r : Reply) : ∃ q, p.placeReply r = p.withOutbound q := by
  refine ⟨p.placeReply r, ?_⟩
  unfold Part.placeReply
  rw [Part.kick_frame]
  rfl

theorem Part.applyDeferred_core (p : Part) : ∃ r, p.applyDeferred = p.deferredDone.withOutbound r := by
  cases hh : p.link.held with
  | none => exact ⟨p, by simp only [Part.applyDeferred, Part.deferredDone, hh]; rfl⟩
  | some x =>
    simp only [Part.applyDeferred, Part.deferredDone, hh]
    cases x with
    | deferredLoad c t =>
      obtain ⟨r, hr⟩ := (p.release.writeEntries_like t (loadStart c) (loadEntries c t)).core
      obtain ⟨q, hq⟩ := Part.placeReply_core (p.release.writeEntries t (loadStart c) (loadEntries c t))
        { tag := c.tag, kind := c.kind, code := .ok, data := c.payload.take 5 }
      exact ⟨q, hq.trans (by rw [hr]; rfl)⟩
    | deferredClear c =>
      exact Part.placeReply_core p.release.clearTracks { tag := c.tag, kind := c.kind, code := .ok, data := [] }
    | storeRead | storeWrite | storeErase => exact ⟨p, rfl⟩

/-- The steps of profile complete behind the profile frame, up to the outbound side (R77). -/
theorem Part.complete_core (p : Part) (b : Fin 8) :
    ∃ r, ((p.freeBank b).applyDeferred).nextBank = ((p.freeBank b).deferredDone).nextBank.withOutbound r := by
  obtain ⟨r, hr⟩ := (p.freeBank b).applyDeferred_core
  refine ⟨r, ?_⟩
  rw [hr]
  unfold Part.nextBank
  rw [← Part.beginNext_withOutbound]
  rfl

end Sys2Proof.Machine

/-! What one row can do to the part, said once. Quiet lists the changes that leave the Command Unit alone, Change adds those that
answer, hold or let go a command or move its queue, and every row but DEVICE_RESET, PERIOD_END and END_OF_FRAME comes to a run of
them. An invariant is kept by every step when each change keeps it. -/

namespace Sys2Proof.Machine

/-! ### The changes -/

/-- The Command Unit has room to answer: it holds nothing and the REPLY queue has a place (R145). -/
def Part.HasRoom (p : Part) : Prop := p.link.held = none ∧ p.link.replies.length < 4

/-- A command that may be held: a deferred load has passed its checks (R88, R150). -/
def Held.checked : Held → Prop
  | .deferredLoad c t => deferrable t = true ∧ tableRun c = some t ∧ firstFaulty t (loadStart c) (loadEntries c t) = none
  | _ => True

/-- A load meets its campaigns at rest (R22), or runs while none can be started (R165). -/
def Part.loadMayWrite (p : Part) (t : TableId) (start count : Nat) : Prop :=
  t = .camp → p.partState = .loading ∨ ∀ k : Fin 4, start ≤ k.val → k.val < start + count → p.runs[k].state = .idle

/-- The changes behind the outbound side that leave the held command and the command queue alone. -/
inductive Part.Core (p : Part) : Part → Prop
  | linkState (rx : LinkRx) (e : Option LinkError) : Core p { p with link := { p.link with rx := rx, lastError := e } }
  | statusWritten (flags enables : BitVec 16) (global : Bool) :
      Core p { p with status := { p.status with flags := flags, enables := enables, global := global } }
  | laser (overEnergy stopped interlockOpen : Bool) (head : HeadState) :
      Core p { p with overEnergy := overEnergy, stopped := stopped, interlockOpen := interlockOpen, head := head }
  | trigEnd : Core p { p with trig := false }
  | fireEnd : Core p { p with fire := none }
  | setLock (l : Lock) (hl : Port.isLocked { p.port with lock := l } = p.port.isLocked) (hr : l.inRange) :
      Core p (p.setLock l)
  | gainLock (h : p.port.isLocked = false) : Core p ((p.setLock (.locked 0)).setRx (.settle 0))
  | loseLock : Core p (((p.setLock (.unlocked 0)).setRx .off).shotLost .lost)
  | setRx (rx : PortRx) (h : p.receiverFits → (p.setRx rx).receiverFits) : Core p (p.setRx rx)
  | dark (d : DarkRef) : Core p { p with engine := { p.engine with dark := d } }
  | reject (s : Shot) (hs : p.shot = some s) (reason : ShotReason) (tag : Option Byte) (energy : Option Nat) :
      Core p (p.rejected s reason tag energy)
  | resync (tag : Byte) : Core p (p.resyncTag tag)
  | endAbandoned (s : Shot) (hs : p.shot = some s) (energy : Option Nat) (e : ShotEnd) :
      Core p ((p.removeShot.charged energy).setLastEnd e)
  | accept (s : Shot) (hs : p.shot = some s) (ha : s.abandoned = false) (r : Record) : Core p (p.accepted s r)
  | restart : Core p p.restartShot.restartMeasuring.restartFlags
  | openOrWait (k : Fin 4) (hidle : p.runs[k].state = .idle) (hready : p.partState = .ready) : Core p (p.openOrWait k)
  | stop (k : Fin 4) : Core p (p.stopCampaign k)
  | setHeld (k : Fin 4) (b : Bool) : Core p (p.setRun k { p.runs[k] with held := b })
  | load (t : TableId) (start : Nat) (es : List (List Byte)) (hok : ∀ e ∈ es, entryOk t e = true) (hne : es ≠ [])
      (hcamp : p.loadMayWrite t start es.length) : Core p (p.written t start es)
  | pass (c : Fin 4) (ds : List Detection) : Core p { p with sky := (p.sky.pass p.tracker c ds).1 }
  | clearTracks : Core p p.clearTracks
  | setStore (st : Store) (h : Memory.wf p.store.cells = true → Memory.wf st.cells = true) : Core p (p.setStore st)
  | boot (b : Boot) (h : b = .ready ∨ p.partState = .loading ∨ p.atRest = true) : Core p { p with boot := b }
  | loaded (r : LoaderRecord) (n : Nat) : Core p { p with loaded := r, free := n }

/-- A change that leaves the Command Unit alone: one behind the outbound side, or one of the outbound side. -/
inductive Part.Quiet (p : Part) : Part → Prop
  | core {q : Part} (h : p.Core q) : Quiet p q
  | like {q : Part} (h : p.Like q) : Quiet p q

/-- What a row can do to the part: a quiet change, or one of the Command Unit. -/
inductive Part.Change (p : Part) : Part → Prop
  | quiet {q : Part} (h : p.Quiet q) : Change p q
  | reply (r : Reply) (h : p.HasRoom) : Change p (p.placeReply r)
  | finish (x : Held) (h : p.link.held = some x) (r : Reply) : Change p (p.release.placeReply r)
  | hold (x : Held) (h : p.HasRoom) (hx : x.checked) : Change p (p.hold x)
  | commands (cs : List Command) (h : p.link.commands.length ≤ 8 → cs.length ≤ 8) :
      Change p { p with link := { p.link with commands := cs } }
  | complete (x : InHand) (h : p.engine.inHand = some x) : Change p ((p.freeBank x.bank).applyDeferred).nextBank

/-- Runs of changes. -/
abbrev Part.BecomesQuietly : Part → Part → Prop := Relation.ReflTransGen Part.Quiet
abbrev Part.Becomes : Part → Part → Prop := Relation.ReflTransGen Part.Change

theorem Part.BecomesQuietly.becomes {p q : Part} (h : p.BecomesQuietly q) : p.Becomes q :=
  Relation.ReflTransGen.mono (fun _ _ => Part.Change.quiet) _ _ h

theorem Part.Core.becomes {p q : Part} (h : p.Core q) : p.Becomes q := .single (.quiet (.core h))

theorem Part.Core.quietly {p q : Part} (h : p.Core q) : p.BecomesQuietly q := .single (.core h)

theorem Part.Like.quietly {p q : Part} (h : p.Like q) : p.BecomesQuietly q := .single (.like h)

theorem Part.Quiet.becomes {p q : Part} (h : p.Quiet q) : p.Becomes q := .single (.quiet h)

/-! ### What the changes keep of the link -/

/-- STOP changes the banks, the run states and the shot in flight only (R25). -/
theorem Part.stopCampaign_frame (p : Part) (k : Fin 4) :
    p.stopCampaign k =
      { p with runs := (p.stopCampaign k).runs, banks := (p.stopCampaign k).banks, shot := (p.stopCampaign k).shot } := by
  unfold Part.stopCampaign Part.abandonShotOf
  dsimp only
  repeat' split
  all_goals rfl

theorem Part.restartShot_link (p : Part) : p.restartShot.link = p.link := by
  rw [Part.restartShot_frame]

/-- A change behind the outbound side leaves the Command Unit, its queues and the frame on the wire alone. -/
theorem Part.Core.keeps_link {p q : Part} (h : p.Core q) :
    q.link.commands = p.link.commands ∧ q.link.held = p.link.held ∧ q.link.replies = p.link.replies ∧
      q.link.sending = p.link.sending := by
  cases h with
  | loseLock => rw [Part.shotLost_frame]; exact ⟨rfl, rfl, rfl, rfl⟩
  | reject => rw [Part.rejected_frame]; exact ⟨rfl, rfl, rfl, rfl⟩
  | accept => rw [Part.accepted_frame]; exact ⟨rfl, rfl, rfl, rfl⟩
  | restart =>
    show p.restartShot.link.commands = _ ∧ p.restartShot.link.held = _ ∧ p.restartShot.link.replies = _ ∧
      p.restartShot.link.sending = _
    rw [p.restartShot_link]
    exact ⟨rfl, rfl, rfl, rfl⟩
  | openOrWait => rw [Part.openOrWait_frame]; exact ⟨rfl, rfl, rfl, rfl⟩
  | stop => rw [Part.stopCampaign_frame]; exact ⟨rfl, rfl, rfl, rfl⟩
  | load => rw [Part.written_frame]; exact ⟨rfl, rfl, rfl, rfl⟩
  | _ => exact ⟨rfl, rfl, rfl, rfl⟩

/-- A quiet change leaves the Command Unit and its queue alone, keeps the room for a reply and the replies out. -/
theorem Part.Quiet.keeps_link {p q : Part} (h : p.Quiet q) :
    q.link.commands = p.link.commands ∧ q.link.held = p.link.held ∧ q.link.replies.length ≤ p.link.replies.length ∧
      q.link.repliesOut = p.link.repliesOut := by
  cases h with
  | core hc =>
    obtain ⟨h1, h2, h3, h4⟩ := hc.keeps_link
    exact ⟨h1, h2, Nat.le_of_eq (by rw [h3]), by rw [Link.repliesOut, Link.repliesOut, h3, h4]⟩
  | like hl =>
    obtain ⟨r, hr⟩ := hl.core
    refine ⟨?_, ?_, hl.sends.room, hl.sends.repliesOut⟩ <;> rw [hr] <;> rfl

theorem Part.BecomesQuietly.keeps_link {p q : Part} (h : p.BecomesQuietly q) :
    q.link.commands = p.link.commands ∧ q.link.held = p.link.held ∧ q.link.replies.length ≤ p.link.replies.length ∧
      q.link.repliesOut = p.link.repliesOut := by
  induction h with
  | refl => exact ⟨rfl, rfl, Nat.le_refl _, rfl⟩
  | tail _ hq ih =>
    obtain ⟨h1, h2, h3, h4⟩ := ih
    obtain ⟨h1', h2', h3', h4'⟩ := hq.keeps_link
    exact ⟨h1'.trans h1, h2'.trans h2, Nat.le_trans h3' h3, h4'.trans h4⟩

theorem Part.HasRoom.quietly {p q : Part} (h : p.HasRoom) (hq : p.BecomesQuietly q) : q.HasRoom := by
  obtain ⟨-, hheld, hlen, -⟩ := hq.keeps_link
  exact ⟨hheld.trans h.1, Nat.lt_of_le_of_lt hlen h.2⟩

/-! ### One command -/

/-- What taking one command comes to (R145 to R148): quiet changes and its one reply, behind which STORE_RELOAD begins its run; or
the command is held. -/
inductive Part.Taken (p : Part) (c : Command) : Part → Prop
  | answered {q : Part} (h : p.BecomesQuietly q) (code : ResultCode) (data : List Byte) : Taken p c (q.answer c code data)
  | reloading (h : p.atRest = true) : Taken p c { p.answer c .ok [] with boot := .reloading .busyWait }
  | held (x : Held) (hx : x.checked) : Taken p c (p.hold x)

theorem Part.Taken.refused {p : Part} (c : Command) (code : ResultCode) (data : List Byte) : p.Taken c (p.answer c code data) :=
  .answered .refl code data

theorem Part.Taken.becomes {p t : Part} {c : Command} (h : p.Taken c t) (hroom : p.HasRoom) : p.Becomes t := by
  cases h with
  | answered hq code data => exact .tail hq.becomes (.reply _ (hroom.quietly hq))
  | reloading hrest =>
    refine .tail (.single (.reply _ hroom)) (.quiet (.core (.boot _ (.inr (.inr ?_)))))
    simpa [Part.atRest] using hrest
  | held x hx => exact .single (.hold x hroom hx)

/-- Following the cause set is raising a flag or nothing. -/
theorem Part.causeEdge_run {p q before : Part} (h : p.BecomesQuietly q) : p.BecomesQuietly (Part.causeEdge before q) :=
  h.tail (.like (Part.causeEdge_like before q))

theorem Part.Becomes.raise {p q : Part} (h : p.Becomes q) (f : Flag) : p.Becomes (q.raise f) := h.tail (.quiet (.like (q.raise_like f)))

end Sys2Proof.Machine

/-! The rows of the opcode table as runs of changes: first the operations that end in one reply, then the Command Unit taking its
queue, then the events. -/

namespace Sys2Proof.Machine

/-! ### What the shared operations keep -/

/-- The changes the causes of the laser are read from. -/
theorem Part.setHead_becomes (p : Part) (x : HeadState) : p.BecomesQuietly (p.setHead x) :=
  Part.causeEdge_run (.single (.core (.laser p.overEnergy p.stopped p.interlockOpen x)))

/-! ### Loads -/

theorem firstFaulty_eq_none_iff (t : TableId) (i : Nat) (es : List (List Byte)) :
    firstFaulty t i es = none ↔ ∀ e ∈ es, entryOk t e = true := by
  induction es generalizing i with
  | nil => simp [firstFaulty]
  | cons e es ih =>
    rw [firstFaulty]
    cases he : entryOk t e with
    | true => simp [he, ih]
    | false => simp [he]

@[simp] theorem splitEntries_length (size n : Nat) (bs : List Byte) : (splitEntries size n bs).length = n := by
  induction n generalizing bs with
  | zero => rfl
  | succ n ih => simp [splitEntries, ih]

/-- A run that a table holds is not empty and lies inside it (R150). -/
theorem tableRun_eq_some {c : Command} {t : TableId} (h : tableRun c = some t) :
    tableOf (field c.payload 0 1) = some t ∧ loadCount c ≠ 0 ∧ loadStart c + loadCount c ≤ tableEntries t := by
  unfold tableRun at h
  split at h
  · next u hu =>
    split at h
    · next hrun =>
      cases h
      exact ⟨hu, hrun⟩
    · cases h
  · cases h

theorem loadEntries_ne_nil {c : Command} {t : TableId} (h : tableRun c = some t) : loadEntries c t ≠ [] := by
  obtain ⟨-, hn, -⟩ := tableRun_eq_some h
  intro he
  have hl := congrArg List.length he
  simp only [loadEntries, splitEntries_length, List.length_nil] at hl
  exact hn hl

/-- A CAMP load that is not refused BUSY meets its campaigns IDLE (R22). -/
theorem Part.loadMayWrite_of_not_busy {p : Part} {c : Command} {t : TableId} (h : p.loadBusy c t = false) :
    p.loadMayWrite t (loadStart c) (loadCount c) := by
  rintro rfl
  refine .inr fun k hlo hhi => ?_
  simp only [Part.loadBusy, Bool.not_eq_false', List.all_eq_true] at h
  simpa [hlo, hhi] using h k (List.mem_finRange k)

/-- An accepted load is a load and a reply (R150). -/
theorem Part.applyLoad_taken {p : Part} {c : Command} {t : TableId} (ht : tableRun c = some t)
    (hok : firstFaulty t (loadStart c) (loadEntries c t) = none)
    (hcamp : p.loadMayWrite t (loadStart c) (loadCount c)) : p.Taken c (p.applyLoad c t) := by
  have hload : p.Core (p.written t (loadStart c) (loadEntries c t)) :=
    .load t _ _ ((firstFaulty_eq_none_iff _ _ _).mp hok) (loadEntries_ne_nil ht) (by simpa [loadEntries] using hcamp)
  exact .answered (.tail hload.quietly (.like (p.writeEntries_like _ _ _))) _ _

theorem Part.takeLoadTable_taken (p : Part) (c : Command) : p.Taken c (p.takeLoadTable c) := by
  unfold Part.takeLoadTable
  split
  · exact .refused c _ _
  · split
    · exact .refused c _ _
    · next t ht =>
      split
      · exact .refused c _ _
      · split
        · exact .refused c _ _
        · next hbusy =>
          split
          · exact .refused c _ _
          · next hok =>
            split
            · next hdef =>
              rw [Bool.and_eq_true] at hdef
              exact .held _ ⟨hdef.1, ht, hok⟩
            · exact Part.applyLoad_taken ht hok (Part.loadMayWrite_of_not_busy (by simpa using hbusy))

/-! ### Commands -/

theorem Part.startCheck_idle {p : Part} {k : Fin 4} (h : p.startCheck k = .ok) : p.runs[k].state = .idle := by
  unfold Part.startCheck at h
  by_contra hne
  simp only [ne_eq, hne, not_false_iff, if_true] at h
  cases h

theorem Part.noteWait_becomes (p : Part) (k : Fin 4) : p.BecomesQuietly (p.noteWait k) := by
  unfold Part.noteWait
  split
  · exact .single (.like (p.raise_like _))
  · exact .refl

theorem Part.takeStart_taken {p : Part} {c : Command} (hready : p.partState = .ready) : p.Taken c (p.takeStart c) := by
  unfold Part.takeStart
  split
  · exact .refused c _ _
  · next k hk =>
    split
    · next hok =>
      have hopen : p.BecomesQuietly (p.openOrWait k) := (Part.Core.openOrWait k (Part.startCheck_idle hok) hready).quietly
      exact .answered (hopen.trans (Part.noteWait_becomes _ k)) _ _
    · exact .refused c _ _

/-- A command past its checks is carried out and answered, or held; one outside the LOADING list comes here only in READY
(R146). -/
theorem Part.carryOut_taken {p : Part} (c : Command) (k : CommandKind) (hready : takenInLoading k = false → p.partState = .ready) :
    p.Taken c (p.carryOut c k) := by
  have hrefuse : ∀ code data, p.Taken c (p.answer c code data) := .refused c
  have hstatus : ∀ flags enables global, p.BecomesQuietly
      { p with status := { p.status with flags := flags, enables := enables, global := global } } :=
    fun _ _ _ => (Part.Core.statusWritten _ _ _).quietly
  cases k with
  | ping => simp only [Part.carryOut, Part.takePing]; split <;> exact hrefuse _ _
  | readStatus | readLaser | readTracks => exact hrefuse _ _
  | clearStatus => exact .answered (hstatus (p.status.flags &&& ~~~(maskField c.payload)) _ _) _ _
  | setNotices =>
    simp only [Part.carryOut, Part.takeSetNotices]
    split
    · exact hrefuse _ _
    · exact .answered (hstatus p.status.flags (maskField (c.payload.take 2)) (decide (field c.payload 2 1 = 1))) _ _
  | warmRestart => exact .answered Part.Core.restart.quietly _ _
  | loadTable => exact p.takeLoadTable_taken c
  | readTable =>
    simp only [Part.carryOut, Part.takeReadTable]
    split
    · exact hrefuse _ _
    · split <;> exact hrefuse _ _
  | start => exact Part.takeStart_taken (hready rfl)
  | stop =>
    simp only [Part.carryOut, Part.takeStop]
    split
    · exact hrefuse _ _
    · exact .answered (Part.Core.stop _).quietly _ _
  | hold =>
    simp only [Part.carryOut, Part.takeHold]
    split
    · exact hrefuse _ _
    · exact .answered (Part.Core.setHeld _ _).quietly _ _
  | resume =>
    simp only [Part.carryOut, Part.takeResume]
    split
    · exact hrefuse _ _
    · exact .answered (Part.Core.setHeld _ _).quietly _ _
  | readCampaign => simp only [Part.carryOut, Part.takeReadCampaign]; split <;> exact hrefuse _ _
  | laserStop =>
    exact .answered (Part.causeEdge_run (.single (.core (.laser p.overEnergy true p.interlockOpen p.head)))) _ _
  | laserRelease => exact .answered (Part.Core.laser false false p.interlockOpen p.head).quietly _ _
  | measureHead =>
    simp only [Part.carryOut, Part.takeMeasureHead]
    split
    · exact hrefuse _ _
    · exact hrefuse _ _
    · exact .answered (p.setHead_becomes .measuring) _ _
  | trackClear =>
    simp only [Part.carryOut, Part.takeTrackClear]
    split
    · exact .held (.deferredClear c) trivial
    · exact .answered Part.Core.clearTracks.quietly _ _
  | storeRead =>
    simp only [Part.carryOut, Part.takeStoreRead]
    split
    · exact hrefuse _ _
    · split
      · exact hrefuse _ _
      · exact .held _ trivial
  | storeWrite =>
    simp only [Part.carryOut, Part.takeStoreWrite]
    split
    · exact hrefuse _ _
    · split
      · exact hrefuse _ _
      · exact .held _ trivial
  | storeErase =>
    simp only [Part.carryOut, Part.takeStoreErase]
    split
    · exact hrefuse _ _
    · exact .held _ trivial
  | storeReload =>
    simp only [Part.carryOut, Part.takeStoreReload]
    split
    · next hrest => exact .reloading hrest
    · exact hrefuse _ _

theorem Part.perform_taken (p : Part) (c : Command) : p.Taken c (p.perform c) := by
  unfold Part.perform
  split
  · next k hk =>
    refine Part.carryOut_taken c k fun hload => ?_
    unfold Part.judgeCommand at hk
    split at hk
    · cases hk
    · next k' hkind =>
      split at hk
      · cases hk
      · next hnot =>
        have hkk : k' = k := by
          split at hk
          · split at hk
            · exact Sum.inl.inj hk
            · cases hk
          · exact Sum.inl.inj hk
        subst hkk
        cases hp : p.partState with
        | ready => rfl
        | loading => exact absurd ⟨hp, hload⟩ hnot
  · exact .refused c _ _

theorem Part.perform_becomes {p : Part} (c : Command) (hroom : p.HasRoom) : p.Becomes (p.perform c) :=
  (p.perform_taken c).becomes hroom

/-! ### The Command Unit -/

theorem Link.unitFree_iff (l : Link) : l.unitFree = true ↔ l.held = none ∧ l.replies.length < 4 := by
  rw [Link.unitFree, Bool.and_eq_true, Option.isNone_iff_eq_none, decide_eq_true_eq, maxReplies]

theorem Part.drain_becomes (n : Nat) (p : Part) : p.Becomes (p.drain n) := by
  induction n generalizing p with
  | zero => exact .refl
  | succ n ih =>
    rw [Part.drain]
    split
    · exact .refl
    · next c rest hc =>
      split
      · next hfree =>
        have hpop : p.Becomes { p with link := { p.link with commands := rest } } :=
          .single (.commands rest fun h => by rw [hc] at h; exact Nat.le_of_succ_le h)
        exact (hpop.trans (Part.perform_becomes c (p.link.unitFree_iff.mp hfree))).trans (ih _)
      · exact .refl

theorem Part.takeCommands_becomes (p : Part) : p.Becomes p.takeCommands := p.drain_becomes _

end Sys2Proof.Machine

/-! The events as runs of changes, and the induction over them: what every change keeps, every step keeps. -/

namespace Sys2Proof.Machine

/-! ### The sample port -/

theorem Part.judge_becomes (p : Part) (r : Record) (w : LineWord) : p.BecomesQuietly (p.judge r w) := by
  unfold Part.judge
  split
  · next s _ hs =>
    split
    · exact .trans (.single (.core (.reject s hs _ _ _))) (.single (.like (p.rejectShot_like _ _ _ _)))
    · split
      · exact .trans (.single (.core (.reject s hs _ _ _))) (.single (.like (p.rejectShot_like _ _ _ _)))
      · split
        · exact .trans (.single (.core (.reject s hs _ _ _))) (.single (.like (p.rejectShot_like _ _ _ _)))
        · split
          · exact .tail (.tail (.single (.core (.reject s hs _ _ _))) (.like (p.rejectShot_like _ _ _ _))) (.core (.resync _))
          · split
            · exact .tail (.single (.core (.endAbandoned s hs _ _))) (.like (p.endAbandoned_like s r))
            · next ha => exact .tail (.single (.core (.accept s hs (by simpa using ha) r))) (.like (p.acceptShot_like s r))
  · exact .single (.like (Part.raise_like _ _))

/-- A receiver that is in a state for a LOCKED port finds the port LOCKED. -/
theorem Part.receiverFits.isLocked {p : Part} (h : p.receiverFits) (hrx : p.port.rx ≠ .off) : p.port.isLocked = true := by
  unfold Part.receiverFits at h
  split at h
  · next hoff => exact absurd hoff hrx
  · exact h.1
  · exact h
  · exact h.1

theorem Record.position_take (r : Record) (w : LineWord) : (r.take w).position = r.position + 1 := by
  cases w <;> simp [Record.take, Record.position]

theorem Record.bound_take (r : Record) (w : LineWord) : (r.take w).bound = r.bound := by
  cases w <;> rfl

/-- A record begun now fits the shot in flight (R45). -/
theorem Part.begun_fits {p : Part} (h : p.port.isLocked = true) :
    (p.setRx (.record (Record.begun p.bindingNow))).receiverFits := by
  refine ⟨h, Nat.le_refl 1, by simp [Record.begun, Record.position, recordWords], fun hb => ?_⟩
  by_contra hs
  simp [Record.begun, Part.bindingNow, show p.shot.isSome = false by simpa using hs] at hb

/-- A word on the receiver (R44 to R46). -/
theorem Part.receiveWord_becomes (p : Part) (w : LineWord) : p.BecomesQuietly (p.receiveWord w) := by
  unfold Part.receiveWord
  split
  · exact .refl
  · next n hrx =>
    have hlock : p.receiverFits → p.port.isLocked = true := fun h => h.isLocked (by simp [hrx])
    split
    · split
      · exact .single (.core (.setRx _ hlock))
      · next hn => exact .single (.core (.setRx _ fun h => ⟨hlock h, by omega⟩))
    · exact .single (.core (.setRx _ fun h => ⟨hlock h, by decide⟩))
  · next hrx =>
    have hlock : p.receiverFits → p.port.isLocked = true := fun h => h.isLocked (by simp [hrx])
    split
    · exact .refl
    · split
      · exact .single (.core (.setRx _ fun h => Part.begun_fits (hlock h)))
      · split
        · exact .refl
        · exact .single (.core (.setRx _ fun h => ⟨hlock h, by decide⟩))
  · next r hrx =>
    have hlock : p.receiverFits → p.port.isLocked = true := fun h => h.isLocked (by simp [hrx])
    split
    · exact .trans (.single (.core (.setRx .hunt hlock))) (Part.judge_becomes _ r w)
    · next hpos =>
      refine .single (.core (.setRx _ fun h => ?_))
      simp only [Part.receiverFits, hrx] at h
      obtain ⟨hl, -, -, hbound⟩ := h
      exact ⟨hl, by rw [Record.position_take]; omega, by rw [Record.position_take]; omega, by rwa [Record.bound_take]⟩

theorem Part.staleDark_becomes (p : Part) : p.BecomesQuietly p.staleDark := by
  unfold Part.staleDark
  split
  · exact .single (.core (.dark _))
  · exact .refl

/-- One word event (R41 to R46). -/
theorem Part.takeWord_becomes (p : Part) (w : LineWord) : p.BecomesQuietly (p.takeWord w) := by
  unfold Part.takeWord
  split
  · next n _ hlock =>
    have hun : p.port.isLocked = false := by simp [Port.isLocked, hlock]
    split
    · exact .trans (.tail (.single (.core (.gainLock hun))) (.like p.gainLock_like)) (Part.receiveWord_becomes _ _)
    · next hn => exact .single (.core (.setLock _ (by rw [hun]; rfl) (show n + 1 < 16 by omega)))
  · next hlock =>
    exact .single (.core (.setLock _ (by simp [Port.isLocked, hlock]) (show 0 < 16 by decide)))
  · next hlock =>
    refine .trans (.single (.core (.setLock (.locked 0) ?_ (show 0 < 4 by decide)))) (Part.receiveWord_becomes _ _)
    simp [Port.isLocked, hlock]
  · next n hlock =>
    split
    · exact .trans (.tail (.single (.core .loseLock)) (.like p.loseLock_like)) (Part.staleDark_becomes _)
    · next hn =>
      refine .trans (.single (.core (.setLock (.locked (n + 1)) ?_ (show n + 1 < 4 by omega)))) (Part.receiveWord_becomes _ _)
      simp [Port.isLocked, hlock]

theorem Part.loseShot_becomes (p : Part) (reason : ShotReason) : p.BecomesQuietly (p.loseShot reason) := by
  unfold Part.loseShot
  split
  · next s hs => exact .trans (.single (.core (.reject s hs _ _ _))) (.single (.like (p.rejectShot_like _ _ _ _)))
  · exact .refl

/-! ### Becoming READY -/

/-- Autostart of one campaign in READY (R38). -/
theorem Part.autostartOne_becomes {p : Part} (k : Fin 4) (hready : p.boot = .ready) :
    p.BecomesQuietly (p.autostartOne k) ∧ (p.autostartOne k).boot = .ready := by
  unfold Part.autostartOne
  split
  · next h =>
    rw [Bool.and_eq_true, decide_eq_true_eq] at h
    refine ⟨.single (.core (.openOrWait k (Part.startCheck_idle h.2) (Part.partState_ready hready))), ?_⟩
    rw [Part.openOrWait_frame]
    exact hready
  · exact ⟨.refl, hready⟩

theorem Part.autostart_becomes {p : Part} (hready : p.boot = .ready) : p.BecomesQuietly p.autostart := by
  obtain ⟨h0, hr0⟩ := Part.autostartOne_becomes 0 hready
  obtain ⟨h1, hr1⟩ := Part.autostartOne_becomes 1 hr0
  obtain ⟨h2, hr2⟩ := Part.autostartOne_becomes 2 hr1
  exact ((h0.trans h1).trans h2).trans (Part.autostartOne_becomes 3 hr2).1

theorem Part.becomeReady_becomes (p : Part) : p.BecomesQuietly p.becomeReady :=
  .trans (.single (.core (.boot _ (.inl rfl)))) (Part.autostart_becomes rfl)

theorem Part.endHeadStep_becomes (p : Part) : p.BecomesQuietly p.endHeadStep := by
  unfold Part.endHeadStep
  split
  · exact p.becomeReady_becomes
  · exact .refl

theorem Part.changePresence_becomes (p : Part) (appear : Bool) : p.BecomesQuietly (p.changePresence appear) :=
  ((p.setHead_becomes _).tail (.like (Part.raise_like _ _))).trans (Part.endHeadStep_becomes _)

theorem Part.endConversion_becomes (p : Part) (ohms : Nat) : p.BecomesQuietly (p.endConversion ohms) := by
  unfold Part.endConversion
  split
  · exact ((p.setHead_becomes _).tail (.like (Part.raise_like _ _))).trans (Part.endHeadStep_becomes _)
  · exact .refl

/-! ### The loader -/

theorem Part.partState_of_stage {p : Part} {st : LoaderStage} (h : p.boot.stage = some st) : p.partState = .loading := by
  unfold Boot.stage at h
  unfold Part.partState
  split at h <;> simp_all

theorem Part.waitOver_becomes (p : Part) (st : LoaderStage) : p.BecomesQuietly (p.waitOver st) := by
  unfold Part.waitOver
  split
  · exact .single (.core (.setStore _ id))
  · exact .refl

theorem Part.waitOver_boot (p : Part) (st : LoaderStage) : (p.waitOver st).boot = p.boot := by
  unfold Part.waitOver
  split <;> rfl

/-- A burst the loader applies has passed the field checks and holds an entry (R167). -/
theorem Part.nextBurst_sound {p : Part} {addr left applied : Nat} {t : TableId} {start : Nat} {es : List (List Byte)}
    {next left' applied' : Nat} (h : p.nextBurst addr left applied = .burst t start es next left' applied') :
    (∀ e ∈ es, entryOk t e = true) ∧ es ≠ [] := by
  unfold Part.nextBurst at h
  split at h
  · repeat' split at h
    all_goals cases h
  · split at h
    · cases h
    · dsimp only at h
      split at h
      · cases h
      · split at h
        · cases h
        · next hrun =>
          unfold Part.burstEntries at h
          dsimp only at h
          split at h
          · cases h
          · split at h
            · cases h
            · next hok =>
              cases h
              refine ⟨(firstFaulty_eq_none_iff _ _ _).mp hok, fun he => hrun (.inl ?_)⟩
              simpa using congrArg List.length he

theorem Part.loaderNext_sound {p : Part} {st : LoaderStage} {t : TableId} {start : Nat} {es : List (List Byte)}
    {next left applied : Nat} (h : p.loaderNext st = .burst t start es next left applied) :
    (∀ e ∈ es, entryOk t e = true) ∧ es ≠ [] := by
  have hopen : p.openImage = .burst t start es next left applied → (∀ e ∈ es, entryOk t e = true) ∧ es ≠ [] := by
    intro h
    unfold Part.openImage at h
    repeat' split at h
    · cases h
    · cases h
    · cases h
    · exact Part.nextBurst_sound h
  cases st with
  | busyWait | timedOut => exact hopen h
  | bursts addr left applied => exact Part.nextBurst_sound h

theorem Boot.stage_withStage {b : Boot} {st st' : LoaderStage} (h : b.stage = some st) :
    (b.withStage st').stage = some st' := by
  cases b with
  | starting | reloading => rfl
  | headStep | ready => cases h

theorem Part.loaderTimeout_becomes (p : Part) : p.BecomesQuietly p.loaderTimeout := by
  unfold Part.loaderTimeout
  split
  · next hst =>
    have hstore : p.Quiet (p.setStore { p.store with busy := true }) := .core (.setStore _ id)
    exact .tail (.single hstore) (.core (.boot _ (.inr (.inl (Part.partState_of_stage hst)))))
  · exact .refl

/-- A burst is a load in LOADING (R167). -/
theorem Part.applyBurst_becomes (p : Part) : p.BecomesQuietly p.applyBurst := by
  unfold Part.applyBurst
  split
  · exact .refl
  · next st hst =>
    split
    · exact .refl
    · split
      · next t start es next left applied hnext =>
        obtain ⟨hok, hne⟩ := Part.loaderNext_sound hnext
        have hload : ∀ q : Part, q.boot = p.boot → q.partState = .loading := fun q hq =>
          Part.partState_of_stage (st := st) (by rw [hq]; exact hst)
        have hboot : p.BecomesQuietly { p.waitOver st with boot := p.boot.withStage (.bursts next left applied) } :=
          (p.waitOver_becomes st).tail (.core (.boot _ (.inr (.inl (hload _ (p.waitOver_boot st))))))
        refine .tail (.tail hboot (.core (.load t start es hok hne fun _ => .inl ?_))) (.like (Part.writeEntries_like _ _ _ _))
        exact Part.partState_of_stage (st := .bursts next left applied) (Boot.stage_withStage hst)
      · exact .refl

theorem Part.headStep_becomes {p : Part} (h : p.partState = .loading) : p.BecomesQuietly p.headStep := by
  unfold Part.headStep
  split
  · exact .tail (.single (.core (.boot .headStep (.inr (.inl h))))) (.core (.laser p.overEnergy p.stopped p.interlockOpen .measuring))
  · exact p.becomeReady_becomes

theorem Part.endLoader_becomes (p : Part) (r : LoaderRecord) : p.BecomesQuietly (p.endLoader r) := by
  have hq : p.BecomesQuietly (Part.raise { p with loaded := r, free := p.free + Config.storeSize } r.result.flag) :=
    .tail (.single (.core (.loaded r _))) (.like (Part.raise_like _ _))
  unfold Part.endLoader
  dsimp only
  split
  · next st hb => exact hq.trans (Part.headStep_becomes (by simp [Part.partState, hb]))
  · exact hq.tail (.core (.boot _ (.inl rfl)))
  · exact hq
  · exact hq

theorem Part.loaderEnd_becomes (p : Part) : p.BecomesQuietly p.loaderEnd := by
  unfold Part.loaderEnd
  split
  · exact .refl
  · next st hst =>
    split
    · exact .refl
    · split
      · exact (p.waitOver_becomes st).trans (Part.endLoader_becomes _ _)
      · exact .refl

/-! ### The profile engine and the store operations -/

theorem Part.writeDark_becomes (p : Part) (b : Fin 8) : p.BecomesQuietly (p.writeDark b) := .single (.core (.dark _))

theorem Part.sortingPass_becomes (p : Part) (c : Fin 4) (b : Bank) (flags : BitVec 16) (f : Findings) :
    p.BecomesQuietly (p.sortingPass c b flags f) := by
  unfold Part.sortingPass
  dsimp only
  refine .tail ?_ (.like (Part.placeReport_like _ _))
  split
  · exact .tail (.single (.core (.pass c f.detections))) (.like (Part.raise_like _ _))
  · exact .single (.core (.pass c f.detections))

theorem Part.results_becomes (p : Part) (h : InHand) : p.BecomesQuietly (p.results h) := by
  unfold Part.results
  split
  · exact p.writeDark_becomes _
  · split
    · exact Part.sortingPass_becomes _ _ _ _ _
    · exact .refl

theorem Part.profileStep_becomes (p : Part) (h : InHand) (q : Profile) : p.BecomesQuietly (p.profileStep h q) := by
  unfold Part.profileStep
  split
  · exact .single (.like (p.offerProfile_like q))
  · exact .refl

/-- The outbound side does not touch the bank in hand. -/
theorem Part.offerProfile_inHand (p : Part) (q : Profile) : (p.offerProfile q).engine.inHand = p.engine.inHand := by
  unfold Part.offerProfile
  split <;> simp

theorem Part.placeReport_inHand (p : Part) (r : Report) : (p.placeReport r).engine.inHand = p.engine.inHand := by
  unfold Part.placeReport
  split <;> simp

theorem Part.results_inHand (p : Part) (h : InHand) : (p.results h).engine.inHand = p.engine.inHand := by
  unfold Part.results Part.sortingPass
  dsimp only
  split
  · rfl
  · split
    · rw [Part.placeReport_inHand]
      split
      · rw [Part.raise_engine_inHand]
      · rfl
    · rfl

theorem Part.completeProfile_becomes {p : Part} {h : InHand} (hh : p.engine.inHand = some h) :
    p.Becomes (p.completeProfile h) := by
  have hsteps : p.BecomesQuietly ((p.results h).profileStep h (p.profileInHand h)) :=
    (p.results_becomes h).trans (Part.profileStep_becomes _ _ _)
  refine hsteps.becomes.tail (.complete h ?_)
  unfold Part.profileStep
  split
  · rw [Part.offerProfile_inHand, Part.results_inHand, hh]
  · rw [Part.results_inHand, hh]

theorem Store.accept_wf {s : Store} (t : Transaction) (h : Memory.wf s.cells = true) : Memory.wf (s.accept t).cells = true := by
  unfold Store.accept
  split
  · split
    · exact Memory.programCells_wf h
    · exact Memory.eraseCells_wf _ h
    · exact h
    · exact h
    · exact h
    · exact h
  · exact h

theorem Store.foldl_accept_wf {s : Store} (ts : List Transaction) (h : Memory.wf s.cells = true) :
    Memory.wf (ts.foldl Store.accept s).cells = true := by
  induction ts generalizing s with
  | nil => exact h
  | cons t ts ih => exact ih (Store.accept_wf t h)

theorem Store.completed_wf {s : Store} (t : Transaction) (h : Memory.wf s.cells = true) :
    Memory.wf (s.completed t).cells = true := Store.foldl_accept_wf _ h

theorem Transaction.cutCells_wf {m : List Host.Cell} (n : Nat) (t : Transaction) (h : Memory.wf m = true) :
    Memory.wf (t.cutCells m n) = true := by
  cases t with
  | pageProgram addr data => exact Memory.cutProgramCells_wf h
  | sectorErase addr => exact Memory.cutEraseCells_wf _ _ h
  | identification | statusRead | dataRead _ _ | writeEnable => exact h

theorem Store.timedOut_wf {s : Store} (n : Nat) (t : Transaction) (phase : StorePhase) (h : Memory.wf s.cells = true) :
    Memory.wf (s.timedOut n t phase).cells = true := by
  unfold Store.timedOut
  split
  · cases phase with
    | busyWait | writeEnable => exact h
    | program | completion => exact Transaction.cutCells_wf n t h
  · exact h

/-- The end of a held store operation: the store and the count of free values, then the reply and the release. -/
theorem Part.endStore_becomes {p : Part} {x : Held} (hx : p.link.held = some x) (st : Store) (n : Nat) (r : Reply)
    (hst : Memory.wf p.store.cells = true → Memory.wf st.cells = true) :
    p.Becomes (Part.placeReply { p.release with store := st, free := n } r) :=
  .tail (.tail (Part.Core.setStore st hst).becomes (.quiet (.core (.loaded p.loaded n))))
    (.finish (p := { p with store := st, free := n }) x hx r)

theorem Part.endStoreRead_becomes (p : Part) : p.Becomes p.endStoreRead := by
  unfold Part.endStoreRead
  split
  · next hx => exact Part.endStore_becomes hx p.store _ _ id
  · exact .refl

theorem Part.endStoreWrite_becomes (p : Part) : p.Becomes p.endStoreWrite := by
  unfold Part.endStoreWrite
  split
  · next hx =>
    split
    · exact .refl
    · exact Part.endStore_becomes hx _ p.free _ (Store.completed_wf _)
  · exact .refl

theorem Part.endStoreErase_becomes (p : Part) : p.Becomes p.endStoreErase := by
  unfold Part.endStoreErase
  split
  · next hx =>
    split
    · exact .refl
    · exact Part.endStore_becomes hx _ p.free _ (Store.completed_wf _)
  · exact .refl

theorem Part.timeoutStoreWrite_becomes (p : Part) (phase : StorePhase) : p.Becomes (p.timeoutStoreWrite phase) := by
  unfold Part.timeoutStoreWrite
  split
  · next hx => exact Part.endStore_becomes hx _ _ _ (Store.timedOut_wf _ _ phase)
  · exact .refl

theorem Part.timeoutStoreErase_becomes (p : Part) (phase : StorePhase) : p.Becomes (p.timeoutStoreErase phase) := by
  unfold Part.timeoutStoreErase
  split
  · next hx => exact Part.endStore_becomes hx _ _ _ (Store.timedOut_wf _ _ phase)
  · exact .refl

/-! ### The station link -/

/-- A row leaves the Command Unit alone, or ends with the unit taking what it may (R145). -/
def Part.Settles (p t : Part) : Prop := p.BecomesQuietly t ∨ ∃ q, p.Becomes q ∧ t = q.takeCommands

theorem Part.Settles.after {p q t : Part} (hpq : p.BecomesQuietly q) (h : q.Settles t) : p.Settles t := by
  rcases h with h | ⟨u, hu, rfl⟩
  · exact .inl (hpq.trans h)
  · exact .inr ⟨u, hpq.becomes.trans hu, rfl⟩

theorem Part.Settles.becomes {p t : Part} (h : p.Settles t) : p.Becomes t := by
  rcases h with h | ⟨q, hq, rfl⟩
  · exact h.becomes
  · exact hq.trans q.takeCommands_becomes

theorem Part.linkError_becomes (p : Part) (reason : LinkError) : p.BecomesQuietly (p.linkError reason) :=
  .tail (.single (.core (.linkState p.link.rx (some reason)))) (.like (Part.raise_like _ _))

theorem Part.setLinkRx_becomes (p : Part) (rx : LinkRx) : p.BecomesQuietly (p.setLinkRx rx) :=
  .single (.core (.linkState rx p.link.lastError))

theorem Part.abandonFrame_becomes (p : Part) (reason : LinkError) : p.BecomesQuietly (p.abandonFrame reason) :=
  (p.setLinkRx_becomes _).trans (Part.linkError_becomes _ _)

theorem Part.acceptFrame_settles (p : Part) (c : Command) : p.Settles (p.acceptFrame c) := by
  unfold Part.acceptFrame Part.enqueue
  split
  · exact .inl (p.linkError_becomes _)
  · split
    · next hlen =>
      refine .inr ⟨_, .single (.commands (p.link.commands ++ [c]) fun _ => ?_), rfl⟩
      simpa [maxCommands] using hlen
    · exact .inl (.single (.like (Part.raise_like _ _)))

theorem Part.goodByte_settles (p : Part) (b : Byte) : p.Settles (p.goodByte b) := by
  unfold Part.goodByte
  split
  · exact .inl .refl
  · split
    · exact .inl (p.setLinkRx_becomes _)
    · exact .inl .refl
  · exact .inl (p.setLinkRx_becomes _)
  · unfold Part.judgeLength
    split
    · exact .inl (p.setLinkRx_becomes _)
    · exact .inl (p.abandonFrame_becomes _)
  · split <;> exact .inl (p.setLinkRx_becomes _)
  · exact .inl (p.setLinkRx_becomes _)
  · unfold Part.completeFrame
    split
    · exact (Part.acceptFrame_settles _ _).after (p.setLinkRx_becomes _)
    · exact .inl (p.abandonFrame_becomes _)

theorem Part.takeByte_settles (p : Part) (b : LineByte) : p.Settles (p.takeByte b) := by
  cases b with
  | good v => exact p.goodByte_settles v
  | framingError =>
    simp only [Part.takeByte]
    split
    · exact .inl (p.abandonFrame_becomes _)
    · exact .inl .refl

/-! ### Every row -/

/-- The row of a station command delivers it (log 1). -/
theorem exec_of_commandOfRow {i : Instr} {c : Command} (h : commandOfRow i = some c) (s : State) :
    exec i s = .next { s with toPart := s.toPart.acceptFrame c } := by
  cases i <;> cases h <;> rfl

/-- The frame boundary of END_OF_FRAME (R153): the frame sent is over, and the next begins. -/
def Part.frameBoundary (p : Part) (f : OutFrame) : Part :=
  Part.kick { p.slotSent f with link := { p.link with sending := none } }

theorem Part.endFrame_eq (p : Part) {f : OutFrame} (h : p.link.sending = some f) :
    p.endFrame = (p.frameBoundary f).takeCommands := by
  unfold Part.endFrame
  simp only [h]
  rfl

/-- Every row but the three that reset the part, end a slot period or end a frame comes to changes. -/
theorem exec_settles {i : Instr} {s t : State} (h : exec i s = .next t)
    (hreset : ∀ straps head lock, i ≠ .deviceReset straps head lock) (hperiod : i ≠ .periodEnd) (hframe : i ≠ .endOfFrame) :
    s.toPart.Settles t.toPart := by
  cases hc : commandOfRow i with
  | some c =>
    rw [exec_of_commandOfRow hc] at h
    cases h
    exact s.toPart.acceptFrame_settles c
  | none =>
    cases i with
    | deviceReset straps head lock => exact absurd rfl (hreset straps head lock)
    | periodEnd => exact absurd rfl hperiod
    | endOfFrame => exact absurd rfl hframe
    | trigPulseEnd => cases h; exact .inl (.single (.core .trigEnd))
    | firePulseEnd => cases h; exact .inl (.single (.core .fireEnd))
    | interlockChange isOpen =>
      cases h
      exact .inl (Part.causeEdge_run (.single (.core (.laser s.overEnergy s.stopped isOpen s.head))))
    | presenceChange appear => cases h; exact .inl (s.toPart.changePresence_becomes appear)
    | conversionComplete ohms => cases h; exact .inl (s.toPart.endConversion_becomes ohms)
    | wordEvent w => cases h; exact .inl (s.toPart.takeWord_becomes w)
    | recordTimeout =>
      simp only [exec, execRecordTimeout] at h
      split at h
      · cases h; exact .inl (s.toPart.loseShot_becomes .timeout)
      · cases h; exact .inl .refl
    | profileComplete =>
      cases h
      show s.toPart.Settles s.toPart.profileComplete
      unfold Part.profileComplete
      split
      · next x hx => exact .inr ⟨_, Part.completeProfile_becomes hx, rfl⟩
      · exact .inl .refl
    | startWaitEnd =>
      cases h
      show s.toPart.Settles (if s.link.rx = .startWait then s.toPart.setLinkRx .hunt else s.toPart)
      split
      · exact .inl (s.toPart.setLinkRx_becomes _)
      · exact .inl .refl
    | byteEvent b => cases h; exact s.toPart.takeByte_settles b
    | gapTimeout =>
      cases h
      show s.toPart.Settles (if s.link.rx.inFrame then s.toPart.abandonFrame .gap else s.toPart)
      split
      · exact .inl (s.toPart.abandonFrame_becomes _)
      · exact .inl .refl
    | storeReadComplete => cases h; exact .inr ⟨_, s.toPart.endStoreRead_becomes, rfl⟩
    | storeWriteComplete => cases h; exact .inr ⟨_, s.toPart.endStoreWrite_becomes, rfl⟩
    | storeWriteTimeout phase => cases h; exact .inr ⟨_, s.toPart.timeoutStoreWrite_becomes phase, rfl⟩
    | storeEraseComplete => cases h; exact .inr ⟨_, s.toPart.endStoreErase_becomes, rfl⟩
    | storeEraseTimeout phase => cases h; exact .inr ⟨_, s.toPart.timeoutStoreErase_becomes phase, rfl⟩
    | loaderBusyTimeout => cases h; exact .inl s.toPart.loaderTimeout_becomes
    | burstApply => cases h; exact .inl s.toPart.applyBurst_becomes
    | loaderEnd => cases h; exact .inl s.toPart.loaderEnd_becomes
    | _ => cases hc

/-! ### The induction -/

/-- What each change does, a run of changes does. -/
theorem Part.Becomes.relates {R : Part → Part → Prop} (hrefl : ∀ p, R p p) (htrans : ∀ p q r, R p q → R q r → R p r)
    (hchange : ∀ p q, p.Change q → R p q) {p q : Part} (h : p.Becomes q) : R p q := by
  induction h with
  | refl => exact hrefl _
  | tail _ hstep ih => exact htrans _ _ _ ih (hchange _ _ hstep)

/-- What the device reset, the end of a slot period, a frame boundary and every change do, every row does. -/
theorem exec_relates {R : Part → Part → Prop} (hrefl : ∀ p, R p p) (htrans : ∀ p q r, R p q → R q r → R p r)
    (hreset : ∀ (p : Part) straps head lock, R p (p.deviceReset straps head lock)) {i : Instr}
    (hperiod : i = .periodEnd → ∀ p : Part, R p p.periodEnd)
    (hframe : ∀ (p : Part) f, p.link.sending = some f → R p (p.frameBoundary f))
    (hchange : ∀ p q : Part, p.Change q → R p q) {s t : State} (h : exec i s = .next t) :
    R s.toPart t.toPart := by
  by_cases h1 : i = .periodEnd
  · subst h1; cases h; exact hperiod rfl _
  · by_cases h2 : i = .endOfFrame
    · subst h2
      cases h
      show R s.toPart s.toPart.endFrame
      cases hf : s.link.sending with
      | none => simpa [Part.endFrame, hf] using hrefl s.toPart
      | some f =>
        rw [Part.endFrame_eq _ hf]
        exact htrans _ _ _ (hframe _ f hf) ((Part.takeCommands_becomes _).relates hrefl htrans hchange)
    · by_cases h3 : ∃ straps head lock, i = .deviceReset straps head lock
      · obtain ⟨straps, head, lock, rfl⟩ := h3
        cases h
        exact hreset _ _ _ _
      · exact (exec_settles h (fun a b c hi => h3 ⟨a, b, c, hi⟩) h1 h2).becomes.relates hrefl htrans hchange

/-- A run of the outbound side, a frame boundary among it, is one that `withOutbound` describes. -/
theorem Part.frameBoundary_core (p : Part) (f : OutFrame) : ∃ r, p.frameBoundary f = p.withOutbound r := by
  refine ⟨p.frameBoundary f, ?_⟩
  unfold Part.frameBoundary Part.slotSent
  rw [Part.kick_frame]
  split <;> rfl

/-- What does not read the outbound side: what every change behind it does, every row does. -/
theorem exec_relates_core {R : Part → Part → Prop} (hrefl : ∀ p, R p p) (htrans : ∀ p q r, R p q → R q r → R p r)
    (hout : ∀ p r : Part, R p (p.withOutbound r))
    (hreset : ∀ (p : Part) straps head lock, R p (p.deviceReset straps head lock)) {i : Instr}
    (hperiod : i = .periodEnd → ∀ p : Part, R p p.periodEnd) (hcore : ∀ p q : Part, p.Core q → R p q)
    (hheld : ∀ (p : Part) held, (∀ x, held = some x → x.checked) → R p { p with link := { p.link with held := held } })
    (hcommands : ∀ (p : Part) cs, R p { p with link := { p.link with commands := cs } })
    (hcomplete : ∀ (p : Part) x, p.engine.inHand = some x → R p ((p.freeBank x.bank).deferredDone).nextBank)
    {s t : State} (h : exec i s = .next t) : R s.toPart t.toPart := by
  refine exec_relates hrefl htrans hreset hperiod (fun p f _ => ?_) (fun p q hpq => ?_) h
  · obtain ⟨q, hq⟩ := p.frameBoundary_core f
    exact hq ▸ hout p q
  · cases hpq with
    | quiet hq =>
      cases hq with
      | core hc => exact hcore _ _ hc
      | like hl => exact hl.keeps fun r => hout p r
    | reply r _ =>
      obtain ⟨q, hq⟩ := p.placeReply_core r
      exact hq ▸ hout p q
    | finish x _ r =>
      obtain ⟨q, hq⟩ := p.release.placeReply_core r
      exact hq ▸ htrans _ _ _ (hheld p none nofun) (hout _ q)
    | hold x _ hx => exact hheld p (some x) fun y hy => Option.some.inj hy ▸ hx
    | commands cs _ => exact hcommands p cs
    | complete x hx =>
      obtain ⟨q, hq⟩ := p.complete_core x.bank
      exact hq ▸ htrans _ _ _ (hcomplete p x hx) (hout _ q)

/-- What is behind the outbound side is kept by every step when the changes behind it keep it. -/
theorem step_keeps {P : Part → Prop} (hout : ∀ p r : Part, P p → P (p.withOutbound r))
    (hreset : ∀ (p : Part) straps head lock, P p → P (p.deviceReset straps head lock))
    (hperiod : ∀ p : Part, P p → P p.periodEnd) (hcore : ∀ p q : Part, P p → p.Core q → P q)
    (hheld : ∀ (p : Part) held, (∀ x, held = some x → x.checked) → P p → P { p with link := { p.link with held := held } })
    (hcommands : ∀ (p : Part) cs, P p → P { p with link := { p.link with commands := cs } })
    (hcomplete : ∀ (p : Part) x, p.engine.inHand = some x → P p → P ((p.freeBank x.bank).deferredDone).nextBank)
    {s t : State} (hs : P s.toPart) (h : step s = .next t) : P t.toPart := by
  unfold step at h
  split at h
  · cases h; exact hs
  · exact exec_relates_core (R := fun p q => P p → P q) (fun _ => id) (fun _ _ _ h h' => h' ∘ h) hout hreset
      (fun _ => hperiod) (fun p q hc hp => hcore p q hp hc) hheld hcommands hcomplete h hs

end Sys2Proof.Machine

/-! The end of a slot period, and the invariants that need no more than the list of changes: the rotating list (R29), the store's
cells (R161), the emission bucket (R5, R6) and the rule that a FIRE pulse begins only when R8 allows it. -/

namespace Sys2Proof.Machine

/-! ### The end of a slot period -/

/-- The part after a slot tick and its drain, with the next period begun (R1, R3, R6). -/
def Part.ticked (p : Part) : Part := Part.tickAndDrain { p with gen := .running p.cadence.slotPeriod }

/-- What the end of a slot period can do (R3, R30): nothing, the stop of the generator, a tick that skips or grants nothing, or a
tick with a grant to an eligible campaign. -/
theorem Part.periodEnd_cases (p : Part) :
    p.periodEnd = p ∨ p.periodEnd = { p with gen := .stopped } ∨
    (∃ n, p.gen = .running n) ∧ (p.ticked.Like p.periodEnd ∨
      ∃ k b, p.shot = none ∧ p.ticked.eligible k = true ∧ p.ticked.fillingBank k = some b ∧
        p.periodEnd = p.ticked.grant k b) := by
  cases hg : p.gen with
  | stopped => exact .inl (by simp only [Part.periodEnd, hg])
  | ending n => exact .inr (.inl (by simp only [Part.periodEnd, hg]))
  | running n =>
    refine .inr (.inr ⟨⟨n, rfl⟩, ?_⟩)
    have hend : p.periodEnd = p.ticked.arbitrate := by simp only [Part.periodEnd, hg]; rfl
    rw [hend]
    unfold Part.arbitrate
    split
    · exact .inl (Part.raise_like _ _)
    · next hs =>
      split
      · exact .inl (.refl _)
      · next k hk =>
        split
        · next b hb => exact .inr ⟨k, b, hs, List.find?_some hk, hb, rfl⟩
        · exact .inl (.refl _)

/-! ### The rotating list -/

theorem moveToBottom_ordered {order : List (Fin 4)} (h : order.Perm resetOrder) (k : Fin 4) :
    (moveToBottom order k).Perm resetOrder := by
  have hbase : (moveToBottom resetOrder k).Perm resetOrder := by revert k; decide
  exact ((h.filter _).append_right [k]).trans hbase

theorem Part.grant_ordered {p : Part} (h : p.arb.ordered) (k : Fin 4) (b : Fin 8) : (p.grant k b).arb.ordered := by
  show List.Perm (if p.arb.mode = .rotating then moveToBottom p.arb.order k else p.arb.order) resetOrder
  split
  · exact moveToBottom_ordered h k
  · exact h

theorem Part.periodEnd_ordered {p : Part} (h : p.arb.ordered) : p.periodEnd.arb.ordered := by
  rcases p.periodEnd_cases with he | he | ⟨-, hl | ⟨k, b, -, -, -, he⟩⟩
  · rwa [he]
  · rwa [he]
  · exact hl.keeps (P := fun q => q.arb.ordered) fun _ => h
  · rw [he]; exact Part.grant_ordered h k b

theorem Part.written_ordered {p : Part} (h : p.arb.ordered) (t : TableId) (start : Nat) (es : List (List Byte)) :
    (p.written t start es).arb.ordered := by
  cases t with
  | gate | bins => simpa only [Part.written, Part.writeEntries, Part.gateLoaded_eq] using h
  | arb =>
    show List.Perm (if _ = ArbMode.rotating then resetOrder else p.arb.order) resetOrder
    split
    · exact .refl _
    · exact h
  | head | corr | thresh | cadence | camp | finder | tracker => exact h

/-- Behind the outbound side only a load writes the list (R29). -/
theorem Part.Core.ordered {p q : Part} (h : p.arb.ordered) (hc : p.Core q) : q.arb.ordered := by
  cases hc with
  | load t start es _ _ _ => exact Part.written_ordered h t start es
  | loseLock => rw [Part.shotLost_frame]; exact h
  | reject s _ _ _ _ => rw [Part.rejected_frame]; exact h
  | accept s _ _ r => rw [Part.accepted_frame]; exact h
  | restart => rw [Part.restartShot_frame]; exact h
  | openOrWait k _ _ => rw [Part.openOrWait_frame]; exact h
  | stop k => rw [Part.stopCampaign_frame]; exact h
  | _ => exact h

theorem Part.deferredDone_ordered {p : Part} (h : p.arb.ordered) : p.deferredDone.arb.ordered := by
  unfold Part.deferredDone
  split
  · exact Part.written_ordered (p := p.release) h _ _ _
  · exact h
  · exact h

/-- Settles O45: the list is turned by a grant and reset by a load, and both give an ordering. -/
theorem rotatingListKept : Obligations.RotatingListKept := by
  intro s t hs h
  refine step_keeps (P := fun p => p.arb.ordered) (fun _ _ h => h) (fun _ _ _ _ _ => .refl _) (fun _ => Part.periodEnd_ordered)
    (fun _ _ h hc => hc.ordered h) (fun _ _ _ h => h) (fun _ _ h => h) (fun p x _ hp => ?_) hs h
  rw [Part.nextBank, Part.beginNext_frame]
  refine Part.deferredDone_ordered ?_
  rwa [Part.freeBank_frame]

end Sys2Proof.Machine

/-! The store's cells (R161, R163, R164), the emission bucket (R5, R6) and the rule that a FIRE pulse begins only when R8 allows
it. -/

namespace Sys2Proof.Machine

/-! ### The store's cells -/

/-- Programming leaves every byte it was not sent as it was. -/
theorem cellAt_programCells_outside {ds : List Byte} {m : List Host.Cell} {addr a : Nat}
    (h : a < addr ∨ addr + ds.length ≤ a) : cellAt (programCells m addr ds) a = cellAt m a := by
  induction ds generalizing m addr with
  | nil => rfl
  | cons d ds ih =>
    rw [List.length_cons] at h
    rw [programCells, ih (by omega), Memory.cellAt_putCell_other _ (by omega)]

/-- Each byte sent is ANDed into its own byte (R161). -/
theorem cellAt_programCells_inside {ds : List Byte} {m : List Host.Cell} (hm : Memory.wf m = true) {addr j : Nat} {d : Byte}
    (h : ds[j]? = some d) : cellAt (programCells m addr ds) (addr + j) = cellAt m (addr + j) &&& d := by
  induction ds generalizing m addr j with
  | nil => cases h
  | cons x ds ih =>
    rw [programCells]
    cases j with
    | zero =>
      obtain rfl : x = d := by simpa using h
      rw [cellAt_programCells_outside (.inl (by omega)), Nat.add_zero, Memory.cellAt_putCell_same _ _ hm]
    | succ j =>
      rw [show addr + (j + 1) = addr + 1 + j by omega, ih (Memory.putCell_wf _ _ hm) (by simpa using h),
        Memory.cellAt_putCell_other _ (by omega)]

theorem cellAt_cutProgramCells_outside {ds : List Byte} {m : List Host.Cell} {n addr a : Nat}
    (h : a < addr ∨ addr + ds.length ≤ a) : cellAt (cutProgramCells m n addr ds) a = cellAt m a := by
  induction ds generalizing m n addr with
  | nil => rfl
  | cons d ds ih =>
    rw [List.length_cons] at h
    rw [cutProgramCells, ih (by omega)]
    split
    · rfl
    · exact Memory.cellAt_putCell_other _ (by omega)

/-- A program cut off leaves each of its bytes old or new (log 10). -/
theorem cellAt_cutProgramCells_inside {ds : List Byte} {m : List Host.Cell} (hm : Memory.wf m = true) {n addr j : Nat}
    {d : Byte} (h : ds[j]? = some d) :
    cellAt (cutProgramCells m n addr ds) (addr + j) = cellAt m (addr + j) ∨
      cellAt (cutProgramCells m n addr ds) (addr + j) = cellAt m (addr + j) &&& d := by
  induction ds generalizing m n addr j with
  | nil => cases h
  | cons x ds ih =>
    rw [cutProgramCells]
    cases j with
    | zero =>
      obtain rfl : x = d := by simpa using h
      rw [cellAt_cutProgramCells_outside (.inl (by omega)), Nat.add_zero]
      split
      · exact .inl rfl
      · exact .inr (Memory.cellAt_putCell_same _ _ hm)
    | succ j =>
      rw [show addr + (j + 1) = addr + 1 + j by omega]
      split
      · exact ih hm (by simpa using h)
      · rw [← Memory.cellAt_putCell_other (a := addr) (a' := addr + 1 + j) (m := m) (cellAt m addr &&& x) (by omega)]
        exact ih (Memory.putCell_wf _ _ hm) (by simpa using h)

/-- Cells kept by a test of their address: a byte stays, or reads as an unlisted one. -/
theorem cellAt_filter_address (m : List Host.Cell) (keep : Nat → Bool) (a : Nat) :
    cellAt (m.filter fun c => keep c.1) a = if keep a then cellAt m a else 0xFF := by
  induction m with
  | nil => simp [cellAt, unlistedByte]
  | cons c rest ih =>
    obtain ⟨b, x⟩ := c
    rw [List.filter_cons]
    cases hb : keep b with
    | true =>
      simp only [if_true, cellAt, ih]
      by_cases hab : a = b
      · subst hab; simp [hb]
      · simp [hab]
    | false =>
      simp only [Bool.false_eq_true, if_false, cellAt, ih]
      by_cases hab : a = b
      · subst hab; simp [hb]
      · simp [hab]

theorem cellAt_cutEraseCells (m : List Host.Cell) (n addr a : Nat) :
    cellAt (cutEraseCells m n addr) a =
      if !inSector addr a || Config.cutKeepsOld (n + (a - addr)) then cellAt m a else 0xFF :=
  cellAt_filter_address m (fun b => !inSector addr b || Config.cutKeepsOld (n + (b - addr))) a

/-! ### The form of the store -/

theorem Part.storeAfterReset_wf {p : Part} (h : Memory.wf p.store.cells = true) :
    Memory.wf p.storeAfterReset.cells = true := by
  unfold Part.storeAfterReset
  split
  · exact Store.timedOut_wf _ _ _ h
  · exact Store.timedOut_wf _ _ _ h
  · exact h

theorem Part.deferredDone_store (p : Part) : p.deferredDone.store = p.store := by
  unfold Part.deferredDone
  split
  · rw [Part.written_frame]; rfl
  · rfl
  · rfl

theorem Part.periodEnd_store (p : Part) : p.periodEnd.store = p.store := by
  rcases p.periodEnd_cases with he | he | ⟨-, hl | ⟨k, b, -, -, -, he⟩⟩
  · rw [he]
  · rw [he]
  · exact hl.keeps (P := fun q => q.store = p.store) fun _ => rfl
  · rw [he]; rfl

/-- Behind the outbound side only the store's own change writes it, in its form. -/
theorem Part.Core.store_wf {p q : Part} (h : Memory.wf p.store.cells = true) (hc : p.Core q) :
    Memory.wf q.store.cells = true := by
  cases hc with
  | setStore st hst => exact hst h
  | load t start es _ _ _ => rw [Part.written_frame]; exact h
  | loseLock => rw [Part.shotLost_frame]; exact h
  | reject s _ _ _ _ => rw [Part.rejected_frame]; exact h
  | accept s _ _ r => rw [Part.accepted_frame]; exact h
  | restart => rw [Part.restartShot_frame]; exact h
  | openOrWait k _ _ => rw [Part.openOrWait_frame]; exact h
  | stop k => rw [Part.stopCampaign_frame]; exact h
  | _ => exact h

theorem inSector_iff (addr a : Nat) : inSector addr a = true ↔ addr ≤ a ∧ a < addr + 4096 := by
  rw [inSector, Bool.and_eq_true, decide_eq_true_eq, decide_eq_true_eq, Config.sectorSize]

theorem inSector_eq_false_iff (addr a : Nat) : inSector addr a = false ↔ a < addr ∨ addr + 4096 ≤ a := by
  rw [← Bool.not_eq_true, inSector_iff]
  omega

/-- Settles O51: the store is written by the ends of its operations only, each of which keeps the form; and what each does to a
byte. -/
theorem storeBytesAndForm : Obligations.StoreBytesAndForm := by
  refine ⟨fun s t hs h => ?_, fun m addr a n data hm => ⟨fun j d hj ha => ?_, fun ha => ?_, fun hlo hhi => ?_, fun ha => ?_⟩⟩
  · refine step_keeps (P := fun p => Memory.wf p.store.cells = true) (fun _ _ h => h)
      (fun _ _ _ _ h => Part.storeAfterReset_wf h) (fun p h => by rwa [p.periodEnd_store]) (fun _ _ h hc => hc.store_wf h)
      (fun _ _ _ h => h) (fun _ _ h => h) (fun p x _ hp => ?_) hs h
    rw [Part.nextBank, Part.beginNext_frame]
    show Memory.wf (Part.deferredDone _).store.cells = true
    rw [Part.deferredDone_store, Part.freeBank_frame]
    exact hp
  · subst ha
    exact ⟨cellAt_programCells_inside hm hj, cellAt_cutProgramCells_inside hm hj⟩
  · exact ⟨cellAt_programCells_outside ha, cellAt_cutProgramCells_outside ha⟩
  · have hin := (inSector_iff addr a).mpr ⟨hlo, hhi⟩
    refine ⟨Memory.cellAt_eraseCells_inside hin, ?_⟩
    rw [cellAt_cutEraseCells]
    split
    · exact .inl rfl
    · exact .inr rfl
  · have hout := (inSector_eq_false_iff addr a).mpr ha
    exact ⟨Memory.cellAt_eraseCells_outside hout, by rw [cellAt_cutEraseCells, hout]; rfl⟩

/-! ### The emission bucket -/

/-- The level keeps its range and does not fall (R5, R6). -/
def Part.bucketHolds (p q : Part) : Prop := p.bucket ≤ 16777215 → q.bucket ≤ 16777215 ∧ p.bucket ≤ q.bucket

theorem Part.bucketHolds_of_eq {p q : Part} (h : q.bucket = p.bucket) : p.bucketHolds q := by
  intro hp
  rw [h]
  exact ⟨hp, Nat.le_refl _⟩

/-- A shot end adds to the level, up to the maximum (R9). -/
theorem Part.bucketHolds_charged {p q : Part} {energy : Option Nat} (h : q.bucket = p.chargedBucket energy) :
    p.bucketHolds q := by
  intro hp
  rw [h]
  unfold Part.chargedBucket
  split
  · exact ⟨hp, Nat.le_refl _⟩
  · simp only [Config.bucketMax]
    omega

theorem Part.shotLost_bucketHolds (p : Part) (reason : ShotReason) : p.bucketHolds (p.shotLost reason) := by
  unfold Part.shotLost
  split
  · exact Part.bucketHolds_charged (by rw [Part.rejected_frame])
  · exact Part.bucketHolds_of_eq rfl

theorem Part.restartShot_bucketHolds (p : Part) : p.bucketHolds p.restartShot := by
  unfold Part.restartShot
  split
  · exact Part.bucketHolds_charged (energy := none) (p.removeShot.chargeShot_bucket none)
  · exact Part.bucketHolds_of_eq rfl

/-- Behind the outbound side only the end of a shot writes the level, and it adds (R9). -/
theorem Part.Core.bucketHolds {p q : Part} (hc : p.Core q) : p.bucketHolds q := by
  cases hc with
  | loseLock => exact Part.shotLost_bucketHolds ((p.setLock (.unlocked 0)).setRx .off) .lost
  | reject s _ _ _ _ => exact Part.bucketHolds_charged (by rw [Part.rejected_frame])
  | endAbandoned s _ _ _ => exact Part.bucketHolds_charged rfl
  | accept s _ _ r => exact Part.bucketHolds_charged (by rw [Part.accepted_frame])
  | restart => exact p.restartShot_bucketHolds
  | load t start es _ _ _ => exact Part.bucketHolds_of_eq (by rw [Part.written_frame])
  | openOrWait k _ _ => exact Part.bucketHolds_of_eq (by rw [Part.openOrWait_frame])
  | stop k => exact Part.bucketHolds_of_eq (by rw [Part.stopCampaign_frame])
  | _ => exact Part.bucketHolds_of_eq rfl

theorem Part.deferredDone_bucket (p : Part) : p.deferredDone.bucket = p.bucket := by
  unfold Part.deferredDone
  split
  · rw [Part.written_frame]; rfl
  · rfl
  · rfl

/-- Every row but the end of a slot period keeps the level from falling. -/
theorem exec_bucketHolds {i : Instr} {s t : State} (hi : i ≠ .periodEnd) (h : exec i s = .next t) :
    s.toPart.bucketHolds t.toPart := by
  refine exec_relates_core (R := Part.bucketHolds) (fun _ => Part.bucketHolds_of_eq rfl) (fun p q r h h' hp => ?_)
    (fun _ _ => Part.bucketHolds_of_eq rfl) (fun _ _ _ _ hp => ⟨Nat.le_refl _, hp⟩) (fun he => absurd he hi)
    (fun _ _ => Part.Core.bucketHolds) (fun _ _ _ => Part.bucketHolds_of_eq rfl) (fun _ _ => Part.bucketHolds_of_eq rfl)
    (fun p x _ => Part.bucketHolds_of_eq ?_) h
  · obtain ⟨hq, hpq⟩ := h hp
    obtain ⟨hr, hqr⟩ := h' hq
    exact ⟨hr, Nat.le_trans hpq hqr⟩
  · rw [Part.nextBank, Part.beginNext_frame]
    show (Part.deferredDone _).bucket = p.bucket
    rw [Part.deferredDone_bucket, Part.freeBank_frame]

/-- The level at the end of a slot period: as it was, or after the drain of a tick (R6). -/
theorem Part.periodEnd_bucket (p : Part) :
    p.periodEnd.bucket = p.bucket ∨ (∃ n, p.gen = .running n) ∧ p.periodEnd.bucket = p.bucket - p.drainAmount := by
  rcases p.periodEnd_cases with he | he | ⟨hrun, hl | ⟨k, b, -, -, -, he⟩⟩
  · exact .inl (by rw [he])
  · exact .inl (by rw [he])
  · exact .inr ⟨hrun, hl.keeps (P := fun q => q.bucket = p.bucket - p.drainAmount) fun _ => rfl⟩
  · exact .inr ⟨hrun, by rw [he]; rfl⟩

/-- Settles O9: every change but a tick adds to the level or leaves it, and a tick drains it by the row of a VERIFIED head. -/
theorem bucketFallsOnlyByDrain : Obligations.BucketFallsOnlyByDrain := by
  intro i s t hmax h
  by_cases hi : i = .periodEnd
  · subst hi
    cases h
    show Part.bucket s.toPart.periodEnd ≤ _ ∧ (Part.bucket s.toPart.periodEnd < _ → _)
    rcases s.toPart.periodEnd_bucket with hb | ⟨hrun, hb⟩
    · rw [hb]
      exact ⟨hmax, fun hlt => absurd hlt (Nat.lt_irrefl _)⟩
    · refine ⟨by rw [hb]; omega, fun hlt => ⟨rfl, hrun, ?_⟩⟩
      rw [hb] at hlt
      show ∃ c : Fin 8, s.head = .verified c ∧ s.toPart.periodEnd.bucket = s.bucket - s.headTable[c].drain
      rw [hb]
      cases hh : s.head with
      | verified c => exact ⟨c, rfl, by simp [Part.drainAmount, Part.selectedRow, hh]⟩
      | absent | unverified | measuring | unreadable => simp [Part.drainAmount, Part.selectedRow, hh] at hlt
  · obtain ⟨ht, hle⟩ := exec_bucketHolds hi h hmax
    exact ⟨ht, fun hlt => absurd hlt (Nat.not_lt.mpr hle)⟩

/-! ### The FIRE pulse -/

theorem Part.partState_eq_ready_iff (p : Part) : p.partState = .ready ↔ p.boot = .ready := by
  unfold Part.partState
  split <;> simp_all

theorem Port.isLocked_iff (q : Port) : q.isLocked = true ↔ ∃ n, q.lock = .locked n := by
  unfold Port.isLocked
  split <;> simp_all

/-- The cause set is empty (R5): no latch, the interlock closed, and an allowed row selected. -/
theorem Part.permitted_iff (p : Part) :
    p.permitted = true ↔ p.interlockOpen = false ∧ p.overEnergy = false ∧ p.stopped = false ∧
      ∃ c : Fin 8, p.head = .verified c ∧ p.headTable[c].allowed = true := by
  unfold Part.permitted Part.headCause Part.selectedRow
  cases hh : p.head with
  | verified c =>
    simp only [Bool.and_eq_true, Bool.not_eq_true', HeadState.verified.injEq, exists_eq_left', Bool.not_eq_false']
    tauto
  | absent | unverified | measuring | unreadable => simp

/-- R8, clause by clause. -/
theorem Part.litPermit_iff (p : Part) :
    p.litPermit = true ↔ p.interlockOpen = false ∧ p.overEnergy = false ∧ p.stopped = false ∧
      (∃ c : Fin 8, p.head = .verified c ∧ p.headTable[c].allowed = true ∧
        p.bucket + p.headTable[c].eMax ≤ p.headTable[c].cap) ∧
      (∃ n, p.port.lock = .locked n) ∧ p.boot = .ready := by
  have hper := p.permitted_iff
  have hlock := p.port.isLocked_iff
  have hready := p.partState_eq_ready_iff
  unfold Part.litPermit Part.selectedRow
  cases hh : p.head with
  | verified c =>
    simp only [hh, HeadState.verified.injEq, exists_eq_left', Bool.and_eq_true, decide_eq_true_eq] at hper ⊢
    rw [hper, hlock, hready]
    tauto
  | absent | unverified | measuring | unreadable => simp

/-- No FIRE pulse and no shot begins. -/
def Part.beginsNothing (p q : Part) : Prop := (q.fire = none ∨ q.fire = p.fire) ∧ (p.shot = none → q.shot = none)

theorem Part.beginsNothing_of_eq {p q : Part} (hf : q.fire = p.fire) (hs : q.shot = p.shot) : p.beginsNothing q :=
  ⟨.inr hf, fun h => hs.trans h⟩

theorem Part.beginsNothing_of_ended {p q : Part} (hf : q.fire = p.fire) (hs : q.shot = none) : p.beginsNothing q :=
  ⟨.inr hf, fun _ => hs⟩

theorem Part.stopCampaign_shot_none {p : Part} (k : Fin 4) (h : p.shot = none) : (p.stopCampaign k).shot = none := by
  unfold Part.stopCampaign Part.abandonShotOf
  simp only [h]
  split <;> exact h

theorem Part.restartShot_shot (p : Part) : p.restartShot.shot = none := by
  unfold Part.restartShot
  split
  · rw [Part.chargeShot_none]; rfl
  · next h => exact h

/-- Behind the outbound side nothing but a grant, which is no such change, begins a pulse or a shot. -/
theorem Part.Core.beginsNothing {p q : Part} (hc : p.Core q) : p.beginsNothing q := by
  cases hc with
  | fireEnd => exact ⟨.inl rfl, id⟩
  | loseLock => exact .intro (.inr (by rw [Part.shotLost_frame]; rfl)) fun _ => by rw [Part.shotLost_frame]
  | reject s _ _ _ _ => exact Part.beginsNothing_of_ended (by rw [Part.rejected_frame]) (by rw [Part.rejected_frame])
  | endAbandoned s _ _ _ => exact Part.beginsNothing_of_ended rfl rfl
  | accept s _ _ r => exact Part.beginsNothing_of_ended (by rw [Part.accepted_frame]) (by rw [Part.accepted_frame])
  | restart => exact Part.beginsNothing_of_ended (by rw [Part.restartShot_frame]; rfl) p.restartShot_shot
  | load t start es _ _ _ => exact Part.beginsNothing_of_eq (by rw [Part.written_frame]) (by rw [Part.written_frame])
  | openOrWait k _ _ => exact Part.beginsNothing_of_eq (by rw [Part.openOrWait_frame]) (by rw [Part.openOrWait_frame])
  | stop k => exact ⟨.inr (by rw [Part.stopCampaign_frame]), Part.stopCampaign_shot_none k⟩
  | _ => exact Part.beginsNothing_of_eq rfl rfl

theorem Part.deferredDone_beginsNothing (p : Part) : p.beginsNothing p.deferredDone := by
  unfold Part.deferredDone
  split
  · rw [Part.written_frame]; exact Part.beginsNothing_of_eq rfl rfl
  · exact Part.beginsNothing_of_eq rfl rfl
  · exact Part.beginsNothing_of_eq rfl rfl

/-- Every row but the end of a slot period begins no pulse and no shot. -/
theorem exec_beginsNothing {i : Instr} {s t : State} (hi : i ≠ .periodEnd) (h : exec i s = .next t) :
    s.toPart.beginsNothing t.toPart := by
  refine exec_relates_core (R := Part.beginsNothing) (fun _ => Part.beginsNothing_of_eq rfl rfl) (fun p q r h h' => ?_)
    (fun _ _ => Part.beginsNothing_of_eq rfl rfl) (fun _ _ _ _ => ⟨.inl rfl, fun _ => rfl⟩) (fun he => absurd he hi)
    (fun _ _ => Part.Core.beginsNothing) (fun _ _ _ => Part.beginsNothing_of_eq rfl rfl)
    (fun _ _ => Part.beginsNothing_of_eq rfl rfl) (fun p x _ => ?_) h
  · refine ⟨?_, h'.2 ∘ h.2⟩
    rcases h'.1 with hr | hr
    · exact .inl hr
    · rw [hr]; exact h.1
  · rw [Part.nextBank, Part.beginNext_frame]
    have hd := (p.freeBank x.bank).deferredDone_beginsNothing
    rw [Part.freeBank_frame] at hd ⊢
    exact hd

/-- A lit grant meets R8 on the level after its tick's drain. -/
theorem Part.ticked_mayFire {p : Part} (h : p.ticked.litPermit = true) : p.mayFire := by
  obtain ⟨hi, ho, hs, ⟨c, hc, ha, hcap⟩, hl, hb⟩ := p.ticked.litPermit_iff.mp h
  refine ⟨p.partState_eq_ready_iff.mpr hb, p.port.isLocked_iff.mpr hl, hi, ho, hs, c, hc, ha, ?_⟩
  have hd : p.drainAmount = p.headTable[c].drain := by
    have hc' : p.head = .verified c := hc
    simp [Part.drainAmount, Part.selectedRow, hc']
  rw [← hd]
  exact hcap

/-- Settles O8: R8 is litPermit_iff; every row but PERIOD_END begins nothing, and of the outcomes of PERIOD_END only a grant to an
eligible campaign begins a pulse or a lit shot. -/
theorem firePulseOnlyWhenSafe : Obligations.FirePulseOnlyWhenSafe := by
  refine ⟨Part.litPermit_iff, fun i s t h hbegin => ?_⟩
  by_cases hi : i = .periodEnd
  · subst hi
    cases h
    change (s.toPart.periodEnd.fire ≠ none ∧ s.toPart.periodEnd.fire ≠ s.fire) ∨
      (s.shot = none ∧ s.toPart.periodEnd.litShot = true) at hbegin
    have hnothing : ∀ q : Part, q.fire = s.fire → q.shot = s.shot →
        ¬((q.fire ≠ none ∧ q.fire ≠ s.fire) ∨ (s.shot = none ∧ q.litShot = true)) := by
      rintro q hf hs (⟨-, hne⟩ | ⟨hnone, hlit⟩)
      · exact hne hf
      · rw [hnone] at hs
        simp [Part.litShot, hs] at hlit
    rcases s.toPart.periodEnd_cases with he | he | ⟨hrun, hl | ⟨k, b, -, hel, -, he⟩⟩
    · rw [he] at hbegin
      exact absurd hbegin (hnothing _ rfl rfl)
    · rw [he] at hbegin
      exact absurd hbegin (hnothing _ rfl rfl)
    · exact absurd hbegin (hl.keeps (P := fun q => ¬((q.fire ≠ none ∧ q.fire ≠ s.fire) ∨ (s.shot = none ∧ q.litShot = true)))
        fun _ => hnothing _ rfl rfl)
    · refine ⟨rfl, hrun, ?_⟩
      rw [he] at hbegin
      have hkind : s.campTable[k].settings.kind = .lit := by
        by_contra hdark
        rcases hbegin with ⟨-, hne⟩ | ⟨-, hlit⟩
        · exact hne (if_neg hdark)
        · exact hdark (of_decide_eq_true hlit)
      simp only [Part.eligible, Bool.and_eq_true, Bool.or_eq_true, decide_eq_true_eq] at hel
      rcases hel.2 with hdark | hper
      · have hd : s.campTable[k].settings.kind = .dark := hdark
        rw [hd] at hkind
        cases hkind
      · exact Part.ticked_mayFire hper
  · obtain ⟨hfire, hshot⟩ := exec_beginsNothing hi h
    rcases hbegin with ⟨hne, hne'⟩ | ⟨hnone, hlit⟩
    · exact absurd hfire (by tauto)
    · simp [Part.litShot, hshot hnone] at hlit

end Sys2Proof.Machine

/-! The track table (R119 to R128): matching, creation, misses and age, one fact for each step of the sorting pass; then the pass, and
the form of the table through every step. -/

namespace Sys2Proof.Machine

/-! ### The preferred track and the victim -/

theorem Track.distance_eq (t : Track) (h : Nat) : t.distance h = ((t.base : Int) - (h : Int)).natAbs := by
  unfold Track.distance
  omega

theorem nearer_iff (h : Nat) (a b : Track) :
    nearer h a b = true ↔ a.distance h < b.distance h ∨
      a.distance h = b.distance h ∧ (a.base < b.base ∨ a.base = b.base ∧ a.id < b.id) := by
  simp [nearer]

theorem rather_iff (a b : Track) :
    rather a b = true ↔ b.misses < a.misses ∨ a.misses = b.misses ∧ (b.base < a.base ∨ a.base = b.base ∧ b.id < a.id) := by
  simp [rather]

/-- What no candidate within the gate beats (R122). -/
def Best (gate h : Nat) (ts : List Track) (u : Track) : Prop :=
  u ∈ ts ∧ u.distance h ≤ gate ∧ ∀ t ∈ ts, t.distance h ≤ gate →
    u.distance h < t.distance h ∨ u.distance h = t.distance h ∧ (u.base < t.base ∨ u.base = t.base ∧ u.id ≤ t.id)

theorem bestMatch_spec (gate h : Nat) (ts : List Track) :
    (bestMatch gate h ts = none ↔ ∀ t ∈ ts, gate < t.distance h) ∧ ∀ u, bestMatch gate h ts = some u → Best gate h ts u := by
  induction ts with
  | nil => simp [bestMatch]
  | cons t rest ih =>
    obtain ⟨hnone, hsome⟩ := ih
    rw [bestMatch]
    cases hm : bestMatch gate h rest with
    | none =>
      have hrest := hnone.mp hm
      dsimp only
      by_cases ht : t.distance h ≤ gate
      · simp only [ht, if_true]
        refine ⟨by simp [ht], fun u hu => ?_⟩
        obtain rfl := Option.some.inj hu
        refine ⟨List.mem_cons_self, ht, fun x hx hxg => ?_⟩
        rcases List.mem_cons.mp hx with rfl | hx
        · exact .inr ⟨rfl, .inr ⟨rfl, Nat.le_refl _⟩⟩
        · exact absurd hxg (Nat.not_le.mpr (hrest x hx))
      · simp only [ht, if_false]
        refine ⟨⟨fun _ x hx => ?_, fun _ => trivial⟩, nofun⟩
        rcases List.mem_cons.mp hx with rfl | hx
        · exact Nat.not_le.mp ht
        · exact hrest x hx
    | some v =>
      obtain ⟨hv, hvg, hbest⟩ := hsome v hm
      have hfar : ¬∀ x ∈ t :: rest, gate < x.distance h := fun hall =>
        absurd hvg (Nat.not_le.mpr (hall v (List.mem_cons_of_mem _ hv)))
      dsimp only
      by_cases ht : (decide (t.distance h ≤ gate) && nearer h t v) = true
      · rw [if_pos ht]
        refine ⟨⟨nofun, fun hall => absurd hall hfar⟩, fun u hu => ?_⟩
        obtain rfl := Option.some.inj hu
        rw [Bool.and_eq_true, decide_eq_true_eq, nearer_iff] at ht
        refine ⟨List.mem_cons_self, ht.1, fun x hx hxg => ?_⟩
        rcases List.mem_cons.mp hx with rfl | hx
        · exact .inr ⟨rfl, .inr ⟨rfl, Nat.le_refl _⟩⟩
        · have := hbest x hx hxg
          omega
      · rw [if_neg ht]
        refine ⟨⟨nofun, fun hall => absurd hall hfar⟩, fun u hu => ?_⟩
        obtain rfl := Option.some.inj hu
        rw [Bool.and_eq_true, decide_eq_true_eq, nearer_iff] at ht
        refine ⟨List.mem_cons_of_mem _ hv, hvg, fun x hx hxg => ?_⟩
        rcases List.mem_cons.mp hx with rfl | hx
        · omega
        · exact hbest x hx hxg

theorem bestMatch_mem {gate h : Nat} {ts : List Track} {u : Track} (hu : bestMatch gate h ts = some u) : u ∈ ts :=
  ((bestMatch_spec gate h ts).2 u hu).1

/-- The COASTING track that no other precedes as a victim (R126). -/
def IsVictim (ts : List Track) (v : Track) : Prop :=
  v ∈ ts ∧ v.state = .coasting ∧ ∀ t ∈ ts, t.state = .coasting →
    t.misses < v.misses ∨ t.misses = v.misses ∧ (t.base < v.base ∨ t.base = v.base ∧ t.id ≤ v.id)

theorem victim_spec (ts : List Track) :
    (victim ts = none ↔ ∀ t ∈ ts, t.state ≠ .coasting) ∧ ∀ v, victim ts = some v → IsVictim ts v := by
  induction ts with
  | nil => simp [victim]
  | cons t rest ih =>
    obtain ⟨hnone, hsome⟩ := ih
    rw [victim]
    cases hm : victim rest with
    | none =>
      have hrest := hnone.mp hm
      dsimp only
      by_cases ht : t.state = .coasting
      · simp only [ht, if_true]
        refine ⟨by simp [ht], fun u hu => ?_⟩
        obtain rfl := Option.some.inj hu
        refine ⟨List.mem_cons_self, ht, fun x hx hxc => ?_⟩
        rcases List.mem_cons.mp hx with rfl | hx
        · exact .inr ⟨rfl, .inr ⟨rfl, Nat.le_refl _⟩⟩
        · exact absurd hxc (hrest x hx)
      · simp only [ht, if_false]
        refine ⟨⟨fun _ x hx => ?_, fun _ => trivial⟩, nofun⟩
        rcases List.mem_cons.mp hx with rfl | hx
        · exact ht
        · exact hrest x hx
    | some v =>
      obtain ⟨hv, hvc, hworst⟩ := hsome v hm
      have hcoasts : ¬∀ x ∈ t :: rest, x.state ≠ .coasting := fun hall => hall v (List.mem_cons_of_mem _ hv) hvc
      dsimp only
      by_cases ht : (decide (t.state = .coasting) && rather t v) = true
      · rw [if_pos ht]
        refine ⟨⟨nofun, fun hall => absurd hall hcoasts⟩, fun u hu => ?_⟩
        obtain rfl := Option.some.inj hu
        rw [Bool.and_eq_true, decide_eq_true_eq, rather_iff] at ht
        refine ⟨List.mem_cons_self, ht.1, fun x hx hxc => ?_⟩
        rcases List.mem_cons.mp hx with rfl | hx
        · exact .inr ⟨rfl, .inr ⟨rfl, Nat.le_refl _⟩⟩
        · have := hworst x hx hxc
          omega
      · rw [if_neg ht]
        refine ⟨⟨nofun, fun hall => absurd hall hcoasts⟩, fun u hu => ?_⟩
        obtain rfl := Option.some.inj hu
        rw [Bool.and_eq_true, decide_eq_true_eq, rather_iff] at ht
        refine ⟨List.mem_cons_of_mem _ hv, hvc, fun x hx hxc => ?_⟩
        rcases List.mem_cons.mp hx with rfl | hx
        · have hnot : ¬(v.misses < x.misses ∨ x.misses = v.misses ∧ (v.base < x.base ∨ x.base = v.base ∧ v.id < x.id)) :=
            fun h => ht ⟨hxc, h⟩
          omega
        · exact hworst x hx hxc

/-! ### Ids -/

/-- The id `m` places after `i` (R125). -/
def idFrom (i m : Nat) : Nat := (i + m - 1) % 255 + 1

theorem idFrom_zero {i : Nat} (hi : 1 ≤ i) (hi' : i ≤ 255) : idFrom i 0 = i := by
  unfold idFrom
  omega

theorem idFrom_succ {i : Nat} (m : Nat) (hi : 1 ≤ i) (hi' : i ≤ 255) : idFrom (idAfter i) m = idFrom i (m + 1) := by
  unfold idAfter idFrom
  split <;> omega

theorem idAfter_range {i : Nat} (hi : 1 ≤ i) (hi' : i ≤ 255) : 1 ≤ idAfter i ∧ idAfter i ≤ 255 := by
  unfold idAfter
  split <;> omega

/-- The search for an id stops at the first free one, or after its last trial. -/
theorem freeId_spec (ts : List Track) (n i : Nat) (hi : 1 ≤ i) (hi' : i ≤ 255) :
    ∃ k, k ≤ n ∧ freeId ts n i = idFrom i k ∧ (∀ m, m < k → ∃ t ∈ ts, t.id = idFrom i m) ∧
      (k < n → ∀ t ∈ ts, t.id ≠ idFrom i k) := by
  induction n generalizing i with
  | zero => exact ⟨0, Nat.le_refl _, (idFrom_zero hi hi').symm, nofun, nofun⟩
  | succ n ih =>
    rw [freeId]
    split
    · next htaken =>
      obtain ⟨hj, hj'⟩ := idAfter_range hi hi'
      obtain ⟨k, hk, hid, hbefore, hfree⟩ := ih (idAfter i) hj hj'
      refine ⟨k + 1, by omega, by rw [hid, idFrom_succ k hi hi'], fun m hm => ?_, fun hlt t ht => ?_⟩
      · cases m with
        | zero =>
          rw [idFrom_zero hi hi']
          simpa using htaken
        | succ m =>
          rw [← idFrom_succ m hi hi']
          exact hbefore m (by omega)
      · rw [← idFrom_succ k hi hi']
        exact hfree (by omega) t ht
    · next hfree =>
      refine ⟨0, Nat.zero_le _, (idFrom_zero hi hi').symm, nofun, fun _ t ht => ?_⟩
      rw [idFrom_zero hi hi']
      intro he
      exact hfree (by simpa using ⟨t, ht, he⟩)

/-- Of eight ids in a row, seven tracks leave one free (R119, R125). -/
theorem freeId_free (ts : List Track) (i : Nat) (hlen : ts.length ≤ 7) (hi : 1 ≤ i) (hi' : i ≤ 255) :
    ∃ n, n ≤ 7 ∧ freeId ts 8 i = idFrom i n ∧ (∀ t ∈ ts, t.id ≠ freeId ts 8 i) ∧
      ∀ m, m < n → ∃ t ∈ ts, t.id = idFrom i m := by
  obtain ⟨k, hk, hid, hbefore, hfree⟩ := freeId_spec ts 8 i hi hi'
  have hk7 : k ≤ 7 := by
    by_contra hk8
    have hnodup : ((List.range 8).map (idFrom i)).Nodup := by
      refine List.Nodup.map_on (fun a ha b hb hab => ?_) List.nodup_range
      simp only [List.mem_range] at ha hb
      unfold idFrom at hab
      omega
    have hsub : (List.range 8).map (idFrom i) ⊆ ts.map Track.id := by
      intro x hx
      obtain ⟨m, hm, rfl⟩ := List.mem_map.mp hx
      obtain ⟨t, ht, he⟩ := hbefore m (by have := List.mem_range.mp hm; omega)
      exact List.mem_map.mpr ⟨t, ht, he⟩
    have hle := (hnodup.subperm hsub).length_le
    simp only [List.length_map, List.length_range] at hle
    omega
  exact ⟨k, hk7, hid, by rw [hid]; exact hfree (by omega), hbefore⟩

/-! ### Tracks matched and created -/

/-- A track of this pass: matched or created in it, from one of its detections (R123, R125). -/
def Track.ofPass (t : Track) (c : Fin 4) (sp : Nat) (ds : List Detection) : Prop :=
  t.lastPass = sp ∧ t.owner = c ∧ t.misses = 0 ∧ t.state ≠ .coasting ∧
    ∃ d ∈ ds, t.peak = d.peak ∧ t.top = d.top ∧ t.cls = d.cls

theorem Track.matched_ofPass (t : Track) (e : TrackerEntry) (c : Fin 4) (sp : Nat) {d : Detection} {ds : List Detection}
    (hd : d ∈ ds) : (t.matched e c sp d).ofPass c sp ds := by
  refine ⟨rfl, rfl, rfl, ?_, d, hd, rfl, rfl, rfl⟩
  unfold Track.matched
  dsimp only
  split <;> nofun

theorem Track.new_ofPass (id : Nat) (e : TrackerEntry) (c : Fin 4) (sp : Nat) {d : Detection} {ds : List Detection}
    (hd : d ∈ ds) : (Track.new id e c sp d).ofPass c sp ds := by
  refine ⟨rfl, rfl, rfl, ?_, d, hd, rfl, rfl, rfl⟩
  unfold Track.new
  dsimp only
  split <;> nofun

theorem Track.matched_fits {t : Track} (h : t.fits) (e : TrackerEntry) (c : Fin 4) {sp : Nat} (hsp : sp < 65536)
    (d : Detection) : (t.matched e c sp d).fits := by
  obtain ⟨hid, hid', hhits, -, -, -, -⟩ := h
  have hstate := (t.matched_ofPass e c sp (List.mem_singleton_self d)).2.2.2.1
  refine ⟨hid, hid', ?_, ?_, Nat.zero_le _, ⟨nofun, fun hc => absurd hc hstate⟩, hsp⟩
  · show 1 ≤ min (t.hits + 1) 255
    omega
  · show min (t.hits + 1) 255 ≤ 255
    omega

theorem Track.new_fits {id : Nat} (hid : 1 ≤ id) (hid' : id ≤ 255) (e : TrackerEntry) (c : Fin 4) {sp : Nat}
    (hsp : sp < 65536) (d : Detection) : (Track.new id e c sp d).fits := by
  have hstate := (Track.new_ofPass id e c sp (List.mem_singleton_self d)).2.2.2.1
  exact ⟨hid, hid', Nat.le_refl 1, by show 1 ≤ 255; decide, Nat.zero_le _, ⟨nofun, fun hc => absurd hc hstate⟩, hsp⟩

/-- What a miss leaves of a track (R127). -/
theorem Track.missed_eq_some {t u : Track} {e : TrackerEntry} {c : Fin 4} (h : t.missed e c = some u) :
    u = t ∨ u = { t with state := .coasting, misses := min (t.misses + 1) 15 } := by
  unfold Track.missed at h
  split at h
  · exact .inl (Option.some.inj h).symm
  · dsimp only at h
    split at h
    · cases h
    · split at h
      · cases h
      · exact .inr (Option.some.inj h).symm
    · split at h
      · cases h
      · exact .inr (Option.some.inj h).symm

theorem Track.missed_id {t u : Track} {e : TrackerEntry} {c : Fin 4} (h : t.missed e c = some u) : u.id = t.id := by
  rcases Track.missed_eq_some h with rfl | rfl <;> rfl

theorem Track.missed_lastPass {t u : Track} {e : TrackerEntry} {c : Fin 4} (h : t.missed e c = some u) :
    u.lastPass = t.lastPass := by
  rcases Track.missed_eq_some h with rfl | rfl <;> rfl

theorem Track.missed_fits {t u : Track} {e : TrackerEntry} {c : Fin 4} (ht : t.fits) (h : t.missed e c = some u) : u.fits := by
  rcases Track.missed_eq_some h with rfl | rfl
  · exact ht
  · obtain ⟨hid, hid', hhits, hhits', -, -, hsp⟩ := ht
    refine ⟨hid, hid', hhits, hhits', ?_, ⟨fun _ => rfl, fun _ => ?_⟩, hsp⟩
    · show min (t.misses + 1) 15 ≤ 15
      omega
    · show 0 < min (t.misses + 1) 15
      omega

/-! ### The tracks in a pass -/

/-- What a pass keeps of its two lists (R122, R125, R126): old tracks that have met nothing yet, and tracks of this pass, in a table
of at most eight with no id twice. -/
structure InPass (tracks rest fresh : List Track) (c : Fin 4) (sp : Nat) (ds : List Detection) : Prop where
  old : rest ⊆ tracks
  ofPass : ∀ t ∈ fresh, t.ofPass c sp ds
  fits : ∀ t ∈ rest ++ fresh, t.fits
  nodup : ((rest ++ fresh).map Track.id).Nodup
  length : (rest ++ fresh).length ≤ 8

/-- A track taken out of the old ones. -/
theorem InPass.erase {tracks rest fresh : List Track} {c : Fin 4} {sp : Nat} {ds : List Detection}
    (h : InPass tracks rest fresh c sp ds) (t : Track) : InPass tracks (rest.erase t) fresh c sp ds := by
  have hsub : (rest.erase t ++ fresh).Sublist (rest ++ fresh) := List.erase_sublist.append_right fresh
  exact ⟨fun x hx => h.old (List.mem_of_mem_erase hx), h.ofPass, fun x hx => h.fits x (hsub.subset hx),
    h.nodup.sublist (hsub.map _), Nat.le_trans hsub.length_le h.length⟩

/-- A track of this pass put behind the others. -/
theorem InPass.snoc {tracks rest fresh : List Track} {c : Fin 4} {sp : Nat} {ds : List Detection}
    (h : InPass tracks rest fresh c sp ds) {t : Track} (hpass : t.ofPass c sp ds) (hfits : t.fits)
    (hid : ∀ u ∈ rest ++ fresh, u.id ≠ t.id) (hlen : (rest ++ fresh).length < 8) :
    InPass tracks rest (fresh ++ [t]) c sp ds where
  old := h.old
  ofPass u hu := by
    rcases List.mem_append.mp hu with hu | hu
    · exact h.ofPass u hu
    · rwa [List.mem_singleton.mp hu]
  fits u hu := by
    rw [← List.append_assoc] at hu
    rcases List.mem_append.mp hu with hu | hu
    · exact h.fits u hu
    · rwa [List.mem_singleton.mp hu]
  nodup := by
    rw [← List.append_assoc, List.map_append, List.nodup_append]
    refine ⟨h.nodup, List.nodup_singleton _, fun a ha b hb hab => ?_⟩
    obtain ⟨u, hu, rfl⟩ := List.mem_map.mp ha
    rw [List.map_singleton, List.mem_singleton] at hb
    exact hid u hu (hab.trans hb)
  length := by
    rw [← List.append_assoc, List.length_append, List.length_singleton]
    omega

/-- A matched track leaves the old ones and joins those of the pass (R122). -/
theorem InPass.move {tracks rest fresh : List Track} {c : Fin 4} {sp : Nat} {ds : List Detection}
    (h : InPass tracks rest fresh c sp ds) (hsp : sp < 65536) (e : TrackerEntry) {t : Track} (ht : t ∈ rest) {d : Detection}
    (hd : d ∈ ds) : InPass tracks (rest.erase t) (fresh ++ [t.matched e c sp d]) c sp ds := by
  have hperm : (rest ++ fresh).Perm (t :: (rest.erase t ++ fresh)) := (List.perm_cons_erase ht).append_right fresh
  have hnodup : (t.id :: (rest.erase t ++ fresh).map Track.id).Nodup := (hperm.map Track.id).nodup_iff.mp h.nodup
  refine (h.erase t).snoc (t.matched_ofPass e c sp hd) (Track.matched_fits ?_ e c hsp d) (fun u hu he => ?_) ?_
  · exact h.fits t (List.mem_append_left _ ht)
  · exact (List.nodup_cons.mp hnodup).1 (List.mem_map.mpr ⟨u, hu, he⟩)
  · have hlen := hperm.length_eq
    have hcap := h.length
    rw [List.length_cons] at hlen
    omega

/-- Matching (R122): the two lists stay in the pass, together as long as before, and the detections left over are of the list. -/
theorem matchAll_inPass {tracks : List Track} {e : TrackerEntry} {c : Fin 4} {sp : Nat} {all : List Detection}
    (hsp : sp < 65536) (ds : List Detection) (m : Matching) (hds : ds ⊆ all) (hun : m.unmatched ⊆ all)
    (h : InPass tracks m.rest m.fresh c sp all) :
    InPass tracks (matchAll e c sp ds m).rest (matchAll e c sp ds m).fresh c sp all ∧
      (matchAll e c sp ds m).unmatched ⊆ all ∧
      (matchAll e c sp ds m).unmatched.length ≤ m.unmatched.length + ds.length ∧
      ((matchAll e c sp ds m).rest ++ (matchAll e c sp ds m).fresh).length = (m.rest ++ m.fresh).length := by
  induction ds generalizing m with
  | nil => exact ⟨h, hun, Nat.le_refl _, rfl⟩
  | cons d ds ih =>
    have hd : d ∈ all := hds List.mem_cons_self
    have hds' : ds ⊆ all := fun x hx => hds (List.mem_cons_of_mem _ hx)
    rw [matchAll, List.length_cons]
    split
    · next t ht =>
      have hmem := bestMatch_mem ht
      obtain ⟨h1, h2, h3, h4⟩ := ih { m with rest := m.rest.erase t, fresh := m.fresh ++ [t.matched e c sp d] } hds' hun
        (h.move hsp e hmem hd)
      refine ⟨h1, h2, Nat.le_trans h3 (by dsimp only; omega), h4.trans ?_⟩
      have := (List.perm_cons_erase hmem).length_eq
      simp only [List.length_append, List.length_cons, List.length_nil] at this ⊢
      omega
    · obtain ⟨h1, h2, h3, h4⟩ := ih { m with unmatched := m.unmatched ++ [d] } hds'
        (List.append_subset.mpr ⟨hun, fun x hx => by rwa [List.mem_singleton.mp hx]⟩) h
      refine ⟨h1, h2, Nat.le_trans h3 ?_, h4⟩
      simp only [List.length_append, List.length_singleton]
      omega

/-! ### Creation -/

/-- A full table makes room in the place of its victim (R126). -/
theorem Creation.place_full {k : Creation} (e : TrackerEntry) (c : Fin 4) (sp : Nat) (d : Detection) {v : Track}
    (hlen : k.rest.length + k.fresh.length = 8) (hv : victim k.rest = some v) :
    Creation.place e c sp k d = Creation.add { k with rest := k.rest.erase v } e c sp d ∧
      (k.rest.erase v).length + k.fresh.length < 8 := by
  have hmem := ((victim_spec k.rest).2 v hv).1
  have := (List.perm_cons_erase hmem).length_eq
  rw [List.length_cons] at this
  refine ⟨?_, by omega⟩
  rw [Creation.place, if_neg (by simp only [maxTracks]; omega), hv]

theorem Creation.place_room {k : Creation} (e : TrackerEntry) (c : Fin 4) (sp : Nat) (d : Detection)
    (hlen : k.rest.length + k.fresh.length < 8) : Creation.place e c sp k d = k.add e c sp d :=
  if_pos hlen

theorem Creation.place_none {k : Creation} (e : TrackerEntry) (c : Fin 4) (sp : Nat) (d : Detection)
    (hlen : 8 ≤ k.rest.length + k.fresh.length) (hv : victim k.rest = none) :
    Creation.place e c sp k d = { k with discarded := true } := by
  rw [Creation.place, if_neg (by simp only [maxTracks]; omega), hv]

/-- What creation keeps: the lists in the pass, and the next-id counter in its range. -/
def Creation.Good (k : Creation) (tracks : List Track) (c : Fin 4) (sp : Nat) (ds : List Detection) : Prop :=
  InPass tracks k.rest k.fresh c sp ds ∧ 1 ≤ k.nextId ∧ k.nextId ≤ 255

theorem Creation.Good.add {k : Creation} {tracks : List Track} {c : Fin 4} {sp : Nat} {ds : List Detection}
    (h : k.Good tracks c sp ds) (hsp : sp < 65536) (e : TrackerEntry) {d : Detection} (hd : d ∈ ds)
    (hlen : k.rest.length + k.fresh.length < 8) : (k.add e c sp d).Good tracks c sp ds := by
  obtain ⟨hin, hn, hn'⟩ := h
  have hlen' : (k.rest ++ k.fresh).length < 8 := by rw [List.length_append]; exact hlen
  obtain ⟨n, -, hid, hfree, -⟩ := freeId_free (k.rest ++ k.fresh) k.nextId (by omega) hn hn'
  have hrange : 1 ≤ freeId (k.rest ++ k.fresh) 8 k.nextId ∧ freeId (k.rest ++ k.fresh) 8 k.nextId ≤ 255 := by
    rw [hid]
    unfold idFrom
    omega
  exact ⟨hin.snoc (Track.new_ofPass _ e c sp hd) (Track.new_fits hrange.1 hrange.2 e c hsp d) hfree hlen',
    idAfter_range hrange.1 hrange.2⟩

theorem Creation.Good.place {k : Creation} {tracks : List Track} {c : Fin 4} {sp : Nat} {ds : List Detection}
    (h : k.Good tracks c sp ds) (hsp : sp < 65536) (e : TrackerEntry) {d : Detection} (hd : d ∈ ds) :
    (Creation.place e c sp k d).Good tracks c sp ds := by
  by_cases hroom : k.rest.length + k.fresh.length < 8
  · rw [Creation.place_room e c sp d hroom]
    exact h.add hsp e hd hroom
  · have hcap := h.1.length
    rw [List.length_append] at hcap
    cases hv : victim k.rest with
    | none =>
      rw [Creation.place_none e c sp d (by omega) hv]
      exact h
    | some v =>
      obtain ⟨he, hlen⟩ := Creation.place_full e c sp d (by omega) hv
      rw [he]
      exact Creation.Good.add (k := { k with rest := k.rest.erase v }) ⟨h.1.erase v, h.2⟩ hsp e hd hlen

theorem Creation.Good.foldl {tracks : List Track} {c : Fin 4} {sp : Nat} {all : List Detection} (hsp : sp < 65536)
    (e : TrackerEntry) (ds : List Detection) (hds : ds ⊆ all) {k : Creation} (h : k.Good tracks c sp all) :
    (ds.foldl (Creation.place e c sp) k).Good tracks c sp all := by
  induction ds generalizing k with
  | nil => exact h
  | cons d ds ih =>
    exact ih (fun x hx => hds (List.mem_cons_of_mem _ hx)) (h.place hsp e (hds List.mem_cons_self))

/-- With room for all of them no detection is discarded (R126). -/
theorem Creation.foldl_discarded (e : TrackerEntry) (c : Fin 4) (sp : Nat) (ds : List Detection) (k : Creation)
    (h : k.rest.length + k.fresh.length + ds.length ≤ 8) :
    (ds.foldl (Creation.place e c sp) k).discarded = k.discarded := by
  induction ds generalizing k with
  | nil => rfl
  | cons d ds ih =>
    rw [List.length_cons] at h
    rw [List.foldl_cons, Creation.place_room e c sp d (by omega), ih]
    · rfl
    · simp only [Creation.add, List.length_append, List.length_singleton]
      omega

/-! ### The pass -/

/-- What creation works on at its beginning. -/
def Sky.atCreation (y : Sky) (e : TrackerEntry) (c : Fin 4) (ds : List Detection) : Matching :=
  matchAll e c ((y.sp + 1) % 65536) ds { rest := y.tracks, fresh := [], unmatched := [] }

/-- What creation leaves. -/
def Sky.created (y : Sky) (e : TrackerEntry) (c : Fin 4) (ds : List Detection) : Creation :=
  (y.atCreation e c ds).unmatched.foldl (Creation.place e c ((y.sp + 1) % 65536))
    { rest := (y.atCreation e c ds).rest, fresh := (y.atCreation e c ds).fresh, nextId := y.nextId, discarded := false }

theorem Sky.pass_eq (y : Sky) (e : TrackerEntry) (c : Fin 4) (ds : List Detection) :
    y.pass e c ds =
      ({ tracks := ((y.created e c ds).rest.filterMap (fun t => t.missed e c) ++ (y.created e c ds).fresh).filter
           fun t => !t.stale e ((y.sp + 1) % 65536)
         nextId := (y.created e c ds).nextId, sp := (y.sp + 1) % 65536 }, (y.created e c ds).discarded) := rfl

theorem Sky.fits.inPass {y : Sky} (h : y.fits) (c : Fin 4) (sp : Nat) (ds : List Detection) :
    InPass y.tracks y.tracks [] c sp ds := by
  obtain ⟨hlen, hnodup, -, -, -, hfits⟩ := h
  exact ⟨fun _ => id, nofun, by simpa using hfits, by simpa using hnodup, by simpa using hlen⟩

theorem Sky.fits.created {y : Sky} (h : y.fits) (e : TrackerEntry) (c : Fin 4) (ds : List Detection) :
    (y.created e c ds).Good y.tracks c ((y.sp + 1) % 65536) ds := by
  have hsp : (y.sp + 1) % 65536 < 65536 := Nat.mod_lt _ (by decide)
  obtain ⟨hin, hun, -, -⟩ := matchAll_inPass (e := e) hsp ds { rest := y.tracks, fresh := [], unmatched := [] }
    (fun _ => id) nofun (h.inPass c _ ds)
  obtain ⟨-, -, hn, hn', -, -⟩ := h
  exact Creation.Good.foldl hsp e _ hun ⟨hin, hn, hn'⟩

theorem filterMap_map_sublist {α β : Type} (f : α → Option α) (g : α → β) (hg : ∀ a b, f a = some b → g b = g a)
    (l : List α) : ((l.filterMap f).map g).Sublist (l.map g) := by
  induction l with
  | nil => exact .slnil
  | cons a l ih =>
    rw [List.map_cons]
    cases hf : f a with
    | none => rw [List.filterMap_cons_none hf]; exact ih.cons _
    | some b => rw [List.filterMap_cons_some hf, List.map_cons, hg a b hf]; exact ih.cons_cons _

/-- A track left by a pass was matched or created in it, or stood before it and took its miss (R127). -/
theorem Sky.mem_pass {y : Sky} (h : y.fits) {e : TrackerEntry} {c : Fin 4} {ds : List Detection} {t : Track}
    (ht : t ∈ (y.pass e c ds).1.tracks) :
    t.fits ∧ t.stale e ((y.sp + 1) % 65536) = false ∧
      (t.ofPass c ((y.sp + 1) % 65536) ds ∨ ∃ o ∈ y.tracks, o.missed e c = some t) := by
  obtain ⟨hin, -, -⟩ := h.created e c ds
  rw [Sky.pass_eq] at ht
  obtain ⟨hmem, hstale⟩ := List.mem_filter.mp ht
  have hstale' : t.stale e ((y.sp + 1) % 65536) = false := by simpa using hstale
  rcases List.mem_append.mp hmem with hm | hm
  · obtain ⟨o, ho, hmiss⟩ := List.mem_filterMap.mp hm
    exact ⟨Track.missed_fits (hin.fits o (List.mem_append_left _ ho)) hmiss, hstale', .inr ⟨o, hin.old ho, hmiss⟩⟩
  · exact ⟨hin.fits t (List.mem_append_right _ hm), hstale', .inl (hin.ofPass t hm)⟩

/-- The pass keeps the form of the table (R119, R125). -/
theorem Sky.fits.pass {y : Sky} (h : y.fits) (e : TrackerEntry) (c : Fin 4) (ds : List Detection) :
    (y.pass e c ds).1.fits := by
  obtain ⟨hin, hn, hn'⟩ := h.created e c ds
  have hids : ((y.pass e c ds).1.tracks.map Track.id).Sublist
      (((y.created e c ds).rest ++ (y.created e c ds).fresh).map Track.id) := by
    rw [Sky.pass_eq, List.map_append]
    refine (List.filter_sublist.map _).trans ?_
    rw [List.map_append]
    exact (filterMap_map_sublist _ _ (fun _ _ => Track.missed_id) _).append_right _
  refine ⟨?_, hin.nodup.sublist hids, hn, hn', Nat.mod_lt _ (by decide), fun t ht => (Sky.mem_pass h ht).1⟩
  have hlen := hids.length_le
  rw [List.length_map, List.length_map] at hlen
  exact Nat.le_trans hlen hin.length

/-! ### The table through every step -/

/-- An empty table with its counter at 1. -/
theorem Sky.fits_empty {sp : Nat} (h : sp < 65536) : Sky.fits { tracks := [], nextId := 1, sp := sp } :=
  ⟨Nat.zero_le 8, List.nodup_nil, Nat.le_refl 1, show 1 ≤ 255 by decide, h, nofun⟩

theorem Part.deferredDone_sky {p : Part} (h : p.sky.fits) : p.deferredDone.sky.fits := by
  unfold Part.deferredDone
  split
  · rw [Part.written_frame]; exact h
  · obtain ⟨-, -, -, -, hsp, -⟩ := h
    exact Sky.fits_empty hsp
  · exact h

theorem Part.periodEnd_sky (p : Part) : p.periodEnd.sky = p.sky := by
  rcases p.periodEnd_cases with he | he | ⟨-, hl | ⟨k, b, -, -, -, he⟩⟩
  · rw [he]
  · rw [he]
  · exact hl.keeps (P := fun q => q.sky = p.sky) fun _ => rfl
  · rw [he]; rfl

/-- Behind the outbound side the table changes by a pass, by TRACK_CLEAR or by WARM_RESTART. -/
theorem Part.Core.sky_fits {p q : Part} (h : p.sky.fits) (hc : p.Core q) : q.sky.fits := by
  cases hc with
  | pass c ds => exact h.pass _ c ds
  | clearTracks => exact Sky.fits_empty h.2.2.2.2.1
  | restart => exact Sky.fits_empty (by decide)
  | load t start es _ _ _ => rw [Part.written_frame]; exact h
  | loseLock => rw [Part.shotLost_frame]; exact h
  | reject s _ _ _ _ => rw [Part.rejected_frame]; exact h
  | accept s _ _ r => rw [Part.accepted_frame]; exact h
  | openOrWait k _ _ => rw [Part.openOrWait_frame]; exact h
  | stop k => rw [Part.stopCampaign_frame]; exact h
  | _ => exact h

/-- Settles O49: the table changes by a sorting pass, which keeps its form, or is emptied. -/
theorem trackTableKept : Obligations.TrackTableKept := by
  intro s t hs h
  refine step_keeps (P := fun p => p.sky.fits) (fun _ _ h => h) (fun _ _ _ _ _ => Sky.fits_empty (by decide))
    (fun p h => by rwa [p.periodEnd_sky]) (fun _ _ h hc => hc.sky_fits h) (fun _ _ _ h => h) (fun _ _ h => h)
    (fun p x _ hp => ?_) hs h
  rw [Part.nextBank, Part.beginNext_frame]
  refine Part.deferredDone_sky ?_
  rwa [Part.freeBank_frame]

end Sys2Proof.Machine

/-! The ranges of the tables (R2, R18, R21, R58, R59, R84, R97, R99, R120): an entry that passes its field checks is stored in range,
so every table stays in range through every step. -/

namespace Sys2Proof.Machine

/-! ### Fields -/

theorem foldl_be_lt (bs : List Byte) (acc k : Nat) (h : acc < 256 ^ k) :
    bs.foldl (fun acc b => acc * 256 + b.toNat) acc < 256 ^ (k + bs.length) := by
  induction bs generalizing acc k with
  | nil => exact h
  | cons b bs ih =>
    have hb : b.toNat < 256 := b.isLt
    have hk : acc * 256 + b.toNat < 256 ^ (k + 1) := by
      rw [Nat.pow_succ]
      omega
    simpa only [List.foldl_cons, List.length_cons, Nat.add_assoc, Nat.add_comm 1] using ih _ _ hk

theorem ofBe_lt (bs : List Byte) : ofBe bs < 256 ^ bs.length := by
  simpa [ofBe] using foldl_be_lt bs 0 0 Nat.one_pos

/-- A field of `n` bytes lies below `256 ^ n`, whatever the entry's length. -/
theorem field_lt (bs : List Byte) (o n : Nat) : field bs o n < 256 ^ n :=
  Nat.lt_of_lt_of_le (ofBe_lt _) (Nat.pow_le_pow_right (by decide) (List.length_take_le _ _))

theorem field_one_lt (bs : List Byte) (o : Nat) : field bs o 1 < 256 := field_lt bs o 1
theorem field_two_lt (bs : List Byte) (o : Nat) : field bs o 2 < 65536 := field_lt bs o 2
theorem field_three_lt (bs : List Byte) (o : Nat) : field bs o 3 < 16777216 := field_lt bs o 3
theorem field_five_lt (bs : List Byte) (o : Nat) : field bs o 5 < 1099511627776 := field_lt bs o 5

/-! ### Entries in range -/

theorem gateOf_inRange {e : List Byte} (h : entryOk .gate e = true) : (gateOf e).inRange := by
  simp only [entryOk, Bool.and_eq_true, decide_eq_true_eq] at h
  exact ⟨h.1.1, h.1.2, h.2⟩

theorem corrOf_inRange {e : List Byte} (h : entryOk .corr e = true) : (corrOf e).inRange := by
  simp only [entryOk, decide_eq_true_eq] at h
  exact ⟨Nat.le_of_lt_succ (field_two_lt e 0), h⟩

theorem threshOf_inRange {e : List Byte} (h : entryOk .thresh e = true) : (threshOf e).inRange := by
  simp only [entryOk, Bool.and_eq_true, decide_eq_true_eq] at h
  exact ⟨h.1.1, h.1.2, h.2⟩

theorem headRowOf_inRange {e : List Byte} (h : entryOk .head e = true) : (headRowOf e).inRange := by
  simp only [entryOk, Bool.and_eq_true, decide_eq_true_eq] at h
  obtain ⟨⟨⟨-, href⟩, hmax⟩, hcap⟩ := h
  exact ⟨href, Nat.le_of_lt_succ (field_two_lt e 1), hmax, Nat.le_of_lt_succ (field_two_lt e 3), hcap,
    Nat.le_of_lt_succ (field_three_lt e 5), Nat.le_of_lt_succ (field_two_lt e 8)⟩

theorem cadenceOf_inRange (e : List Byte) : (cadenceOf e).inRange := by
  have hp := field_two_lt e 0
  simp only [Cadence.inRange, cadenceOf, clampNat]
  omega

theorem campOf_inRange {e : List Byte} (h : entryOk .camp e = true) : (campOf e).inRange := by
  simp only [entryOk, Bool.and_eq_true, Bool.not_eq_true', decide_eq_true_eq] at h
  obtain ⟨⟨⟨⟨⟨⟨⟨⟨-, hshots⟩, -⟩, -⟩, hlo⟩, hhi⟩, -⟩, -⟩, hdark⟩ := h
  refine ⟨hshots, Nat.le_of_lt_succ (field_two_lt e 1), hlo, hhi, fun ⟨hk, hsort⟩ => ?_⟩
  simp only [campOf, ite_eq_left_iff, reduceCtorEq, imp_false, Decidable.not_not, decide_eq_true_eq] at hk hsort
  simp [hk, hsort] at hdark

theorem finderOf_inRange {e : List Byte} (h : entryOk .finder e = true) : (finderOf e).inRange := by
  simp only [entryOk, Bool.and_eq_true, decide_eq_true_eq] at h
  have hvv := field_five_lt e 6
  simp only [FinderEntry.inRange, finderOf, clampNat]
  omega

theorem trackerOf_inRange {e : List Byte} (h : entryOk .tracker e = true) : (trackerOf e).inRange := by
  simp only [entryOk, Bool.and_eq_true, decide_eq_true_eq] at h
  have hstale := field_one_lt e 5
  simp only [TrackerEntry.inRange, trackerOf, clampNat]
  omega

/-! ### A run of entries written -/

/-- A property of every old entry and of every new one is one of every entry after a run is written. -/
theorem putRun_forall {α : Type} {n : Nat} {P : α → Prop} {xs : List α} {v : Vector α n} (start : Nat)
    (hv : ∀ i : Fin n, P v[i]) (hx : ∀ x ∈ xs, P x) (i : Fin n) : P (putRun v start xs)[i] := by
  induction xs generalizing v start with
  | nil => exact hv i
  | cons x xs ih =>
    refine ih (start + 1) (fun j => ?_) (fun y hy => hx y (List.mem_cons_of_mem _ hy))
    simp only [Fin.getElem_fin, Vector.getElem_setIfInBounds]
    split
    · exact hx x List.mem_cons_self
    · exact hv j

theorem forall_mem_map_of_entryOk {α : Type} {P : α → Prop} {f : List Byte → α} {t : TableId}
    (hf : ∀ e, entryOk t e = true → P (f e)) {es : List (List Byte)} (hok : ∀ e ∈ es, entryOk t e = true) :
    ∀ x ∈ es.map f, P x := by
  intro x hx
  obtain ⟨e, he, rfl⟩ := List.mem_map.mp hx
  exact hf e (hok e he)

/-- The one entry of a table of a single entry. -/
theorem headD_entryOk {t : TableId} {es : List (List Byte)} (hok : ∀ e ∈ es, entryOk t e = true) (hne : es ≠ []) :
    entryOk t (es.headD []) = true := by
  cases es with
  | nil => exact absurd rfl hne
  | cons e es => exact hok e List.mem_cons_self

/-! ### The tables -/

/-- The tables of a part, without the deferred load. -/
def Part.rangesHold (p : Part) : Prop :=
  p.cadence.inRange ∧ (∀ c : Fin 8, p.headTable[c].inRange) ∧ (∀ k : Fin 4, p.campTable[k].inRange) ∧
  (∀ i : Fin 512, p.gates.table[i].inRange) ∧ p.gates.nb ≤ 512 ∧ p.gates.generation < 256 ∧
  (∀ i : Fin 512, p.corr[i].inRange) ∧ (∀ i : Fin 512, p.thresh[i].inRange) ∧ p.finder.inRange ∧ p.tracker.inRange

theorem Part.tablesInRange_iff (p : Part) : p.tablesInRange ↔ p.rangesHold ∧ p.deferredChecked := by
  unfold Part.tablesInRange Part.rangesHold
  tauto

/-- An accepted load keeps every table in range (R150). -/
theorem Part.written_rangesHold {p : Part} {t : TableId} (start : Nat) {es : List (List Byte)} (h : p.rangesHold)
    (hok : ∀ e ∈ es, entryOk t e = true) (hne : es ≠ []) : (p.written t start es).rangesHold := by
  obtain ⟨hcad, hhead, hcamp, hgate, hnb, hgen, hcorr, hthresh, hfind, htrack⟩ := h
  have hgen' : (p.gates.generation + 1) % 256 < 256 := Nat.mod_lt _ (by decide)
  cases t with
  | gate =>
    simp only [Part.written, Part.writeEntries, Part.gateLoaded_eq]
    exact ⟨hcad, hhead, hcamp, putRun_forall start hgate (forall_mem_map_of_entryOk (fun _ => gateOf_inRange) hok), hnb, hgen',
      hcorr, hthresh, hfind, htrack⟩
  | bins =>
    simp only [Part.written, Part.writeEntries, Part.gateLoaded_eq]
    have hbins := headD_entryOk hok hne
    simp only [entryOk, decide_eq_true_eq] at hbins
    exact ⟨hcad, hhead, hcamp, hgate, hbins, hgen', hcorr, hthresh, hfind, htrack⟩
  | corr =>
    exact ⟨hcad, hhead, hcamp, hgate, hnb, hgen,
      putRun_forall start hcorr (forall_mem_map_of_entryOk (fun _ => corrOf_inRange) hok), hthresh, hfind, htrack⟩
  | thresh =>
    exact ⟨hcad, hhead, hcamp, hgate, hnb, hgen, hcorr,
      putRun_forall start hthresh (forall_mem_map_of_entryOk (fun _ => threshOf_inRange) hok), hfind, htrack⟩
  | head =>
    exact ⟨hcad, putRun_forall start hhead (forall_mem_map_of_entryOk (fun _ => headRowOf_inRange) hok), hcamp, hgate, hnb, hgen,
      hcorr, hthresh, hfind, htrack⟩
  | cadence => exact ⟨cadenceOf_inRange _, hhead, hcamp, hgate, hnb, hgen, hcorr, hthresh, hfind, htrack⟩
  | arb => exact ⟨hcad, hhead, hcamp, hgate, hnb, hgen, hcorr, hthresh, hfind, htrack⟩
  | camp =>
    exact ⟨hcad, hhead, putRun_forall start hcamp (forall_mem_map_of_entryOk (fun _ => campOf_inRange) hok), hgate, hnb, hgen,
      hcorr, hthresh, hfind, htrack⟩
  | finder => exact ⟨hcad, hhead, hcamp, hgate, hnb, hgen, hcorr, hthresh, finderOf_inRange (headD_entryOk hok hne), htrack⟩
  | tracker => exact ⟨hcad, hhead, hcamp, hgate, hnb, hgen, hcorr, hthresh, hfind, trackerOf_inRange (headD_entryOk hok hne)⟩

/-- The reset values lie in their ranges. -/
theorem Part.atReset_tablesInRange (straps : BitVec 2) (head lock : Bool) (st : Store) (n : Nat) :
    (Part.atReset straps head lock st n).tablesInRange := by
  have hcamp : CampEntry.reset.inRange := by
    unfold CampEntry.inRange
    decide
  refine ⟨?_, fun c => ?_, fun k => ?_, fun i => ?_, Nat.zero_le _, Nat.zero_lt_succ _, fun i => ?_, fun i => ?_, ?_, ?_, trivial⟩
  · simp only [Part.atReset, Cadence.inRange]; omega
  · simp only [Part.atReset, Fin.getElem_fin, Vector.getElem_replicate, HeadRow.inRange]; omega
  · simpa only [Part.atReset, Fin.getElem_fin, Vector.getElem_replicate] using hcamp
  · simp only [Part.atReset, Fin.getElem_fin, Vector.getElem_replicate, GateEntry.inRange]; omega
  · simp only [Part.atReset, Fin.getElem_fin, Vector.getElem_replicate, CorrEntry.inRange]; omega
  · simp only [Part.atReset, Fin.getElem_fin, Vector.getElem_replicate, ThreshEntry.inRange]; omega
  · simp only [Part.atReset, FinderEntry.inRange]; omega
  · simp only [Part.atReset, TrackerEntry.inRange]; omega

theorem Part.periodEnd_tablesInRange {p : Part} (h : p.tablesInRange) : p.periodEnd.tablesInRange := by
  rcases p.periodEnd_cases with he | he | ⟨-, hl | ⟨k, b, -, -, -, he⟩⟩
  · rwa [he]
  · rw [he]; exact h
  · exact hl.keeps (P := Part.tablesInRange) fun _ => h
  · rw [he]; exact h

/-- Behind the outbound side only a load writes a table. -/
theorem Part.Core.tablesInRange {p q : Part} (h : p.tablesInRange) (hc : p.Core q) : q.tablesInRange := by
  cases hc with
  | load t start es hok hne _ =>
    rw [Part.tablesInRange_iff] at h ⊢
    refine ⟨Part.written_rangesHold start h.1 hok hne, ?_⟩
    rw [Part.written_frame]
    exact h.2
  | restart => rw [Part.restartShot_frame]; exact h
  | loseLock => rw [Part.shotLost_frame]; exact h
  | reject s _ _ _ _ => rw [Part.rejected_frame]; exact h
  | accept s _ _ r => rw [Part.accepted_frame]; exact h
  | openOrWait k _ _ => rw [Part.openOrWait_frame]; exact h
  | stop k => rw [Part.stopCampaign_frame]; exact h
  | _ => exact h

theorem Part.deferredDone_tablesInRange {p : Part} (h : p.tablesInRange) : p.deferredDone.tablesInRange := by
  rw [Part.tablesInRange_iff] at h
  obtain ⟨hr, hd⟩ := h
  cases hh : p.link.held with
  | none => simpa only [Part.deferredDone, hh, Part.tablesInRange_iff] using And.intro hr hd
  | some x =>
    simp only [Part.deferredChecked, hh] at hd
    simp only [Part.deferredDone, hh, Part.tablesInRange_iff]
    cases x with
    | deferredLoad c t =>
      refine ⟨Part.written_rangesHold _ hr ((firstFaulty_eq_none_iff t _ _).mp hd.2) (loadEntries_ne_nil hd.1), ?_⟩
      dsimp only
      rw [Part.written_frame]
      exact trivial
    | deferredClear c => exact ⟨hr, trivial⟩
    | storeRead | storeWrite | storeErase => exact ⟨hr, by simp only [Part.deferredChecked, hh]⟩

/-- Settles O48: a table changes by a load whose entries have passed their checks, at once, at a burst or deferred. -/
theorem tablesStayInRange : Obligations.TablesStayInRange := by
  intro s t hs h
  refine step_keeps (P := Part.tablesInRange) (fun _ _ h => h) (fun _ _ _ _ _ => Part.atReset_tablesInRange _ _ _ _ _)
    (fun _ => Part.periodEnd_tablesInRange) (fun _ _ h hc => hc.tablesInRange h) (fun p held hheld hp => ?_) (fun _ _ h => h)
    (fun p x _ hp => ?_) hs h
  · rw [Part.tablesInRange_iff] at hp ⊢
    refine ⟨hp.1, ?_⟩
    cases held with
    | none => exact trivial
    | some x => cases x with
      | deferredLoad c t => exact (hheld _ rfl).2
      | deferredClear | storeRead | storeWrite | storeErase => exact trivial
  · rw [Part.nextBank, Part.beginNext_frame]
    refine Part.deferredDone_tablesInRange ?_
    rw [Part.freeBank_frame]
    exact hp

end Sys2Proof.Machine

/-! Banks, campaigns, the profile queue and the bank in hand (R24, R73, R74): what opening, closing, freeing and beginning a bank
do to their agreement, and the agreement through every step. -/

namespace Sys2Proof.Machine

/-! ### Entries of the banks and the run states -/

theorem vector_set_get {α : Type} {n : Nat} (v : Vector α n) (i j : Fin n) (x : α) :
    (v.set i x)[j] = if j = i then x else v[j] := by
  simp only [Fin.getElem_fin, Vector.getElem_set, Fin.ext_iff, eq_comm]

theorem vector_set_get_same {α : Type} {n : Nat} (v : Vector α n) (i : Fin n) (x : α) : (v.set i x)[i] = x := by
  rw [vector_set_get, if_pos rfl]

theorem vector_set_get_ne {α : Type} {n : Nat} (v : Vector α n) {i j : Fin n} (x : α) (h : j ≠ i) : (v.set i x)[j] = v[j] := by
  rw [vector_set_get, if_neg h]

theorem bankOf_ne_of_ne {j k : Fin 4} (o odd : Bool) (h : j ≠ k) : bankOf j o ≠ bankOf k odd := fun he => h (bankOf_inj he).1

theorem bankOf_not_ne (k : Fin 4) (odd : Bool) : bankOf k (!odd) ≠ bankOf k odd := fun he => by
  have := (bankOf_inj he).2
  revert this
  cases odd <;> decide

theorem active_ne_not (odd : Bool) : CampState.active odd ≠ .active !odd := by cases odd <;> decide

/-! ### The agreement while the engine is between two banks -/

/-- The clauses of the agreement that hold also while an IDLE engine has not yet begun its queue. -/
def Part.banksMatch (p : Part) : Prop :=
  (∀ k : Fin 4, ∀ odd : Bool, p.banks[bankOf k odd].state = .filling ↔ p.runs[k].state = .active odd) ∧
  p.engine.queue.Nodup ∧ (∀ b : Fin 8, b ∈ p.engine.queue ↔ p.banks[b].state = .closed) ∧
  (∀ b : Fin 8, p.banks[b].state = .processing ↔ p.engine.inHand.map InHand.bank = some b)

theorem Part.banksAgree_iff (p : Part) :
    p.banksAgree ↔ p.banksMatch ∧ (p.engine.inHand = none → p.engine.queue = []) := by
  unfold Part.banksAgree Part.banksMatch
  tauto

/-- The agreement looks at the states of banks and campaigns, at the queue and at the bank in hand. -/
theorem Part.banksMatch_of_same {p q : Part} (h : p.banksMatch) (hruns : ∀ k : Fin 4, q.runs[k].state = p.runs[k].state)
    (hbanks : ∀ b : Fin 8, q.banks[b].state = p.banks[b].state) (hqueue : q.engine.queue = p.engine.queue)
    (hhand : q.engine.inHand = p.engine.inHand) : q.banksMatch := by
  obtain ⟨hfill, hnodup, hclosed, hproc⟩ := h
  refine ⟨fun k odd => ?_, ?_, fun b => ?_, fun b => ?_⟩
  · rw [hruns, hbanks]; exact hfill k odd
  · rwa [hqueue]
  · rw [hqueue, hbanks]; exact hclosed b
  · rw [hhand, hbanks]; exact hproc b

theorem Part.banksAgree_of_same {p q : Part} (h : p.banksAgree) (hruns : ∀ k : Fin 4, q.runs[k].state = p.runs[k].state)
    (hbanks : ∀ b : Fin 8, q.banks[b].state = p.banks[b].state) (hqueue : q.engine.queue = p.engine.queue)
    (hhand : q.engine.inHand = p.engine.inHand) : q.banksAgree := by
  rw [Part.banksAgree_iff] at h ⊢
  exact ⟨Part.banksMatch_of_same h.1 hruns hbanks hqueue hhand, by rw [hqueue, hhand]; exact h.2⟩

/-- One campaign and one of its banks move: the clauses to show are theirs alone. -/
theorem Part.banksMatch_move {p q : Part} (h : p.banksMatch) (k : Fin 4) (odd : Bool)
    (hruns : ∀ j : Fin 4, j ≠ k → q.runs[j].state = p.runs[j].state)
    (hbanks : ∀ c : Fin 8, c ≠ bankOf k odd → q.banks[c].state = p.banks[c].state)
    (hthis : q.banks[bankOf k odd].state = .filling ↔ q.runs[k].state = .active odd)
    (hother : p.banks[bankOf k !odd].state = .filling ↔ q.runs[k].state = .active !odd)
    (hnodup : q.engine.queue.Nodup) (hqueue : ∀ c : Fin 8, c ≠ bankOf k odd → (c ∈ q.engine.queue ↔ c ∈ p.engine.queue))
    (hclosed : bankOf k odd ∈ q.engine.queue ↔ q.banks[bankOf k odd].state = .closed)
    (hhand : ∀ c : Fin 8, c ≠ bankOf k odd →
      (q.engine.inHand.map InHand.bank = some c ↔ p.engine.inHand.map InHand.bank = some c))
    (hproc : q.banks[bankOf k odd].state = .processing ↔ q.engine.inHand.map InHand.bank = some (bankOf k odd)) :
    q.banksMatch := by
  obtain ⟨hfill, -, hclosed', hproc'⟩ := h
  refine ⟨fun j o => ?_, hnodup, fun c => ?_, fun c => ?_⟩
  · by_cases hj : j = k
    · subst hj
      by_cases ho : o = odd
      · rw [ho]; exact hthis
      · obtain rfl : o = !odd := by revert ho; cases o <;> cases odd <;> decide
        rw [hbanks _ (bankOf_not_ne j odd)]
        exact hother
    · rw [hbanks _ (bankOf_ne_of_ne o odd hj), hruns j hj]
      exact hfill j o
  · by_cases hc : c = bankOf k odd
    · rw [hc]; exact hclosed
    · rw [hqueue c hc, hbanks c hc]; exact hclosed' c
  · by_cases hc : c = bankOf k odd
    · rw [hc]; exact hproc
    · rw [hhand c hc, hbanks c hc]; exact hproc' c

/-- A bank that is FREE or FILLING is neither queued nor in hand. -/
theorem Part.banksMatch.unused {p : Part} (h : p.banksMatch) {b : Fin 8} (hc : p.banks[b].state ≠ .closed)
    (hp : p.banks[b].state ≠ .processing) : b ∉ p.engine.queue ∧ p.engine.inHand.map InHand.bank ≠ some b :=
  ⟨fun hm => hc ((h.2.2.1 b).mp hm), fun hm => hp ((h.2.2.2 b).mpr hm)⟩

/-- One campaign and one of its banks move, neither queued nor in hand before or after. -/
theorem Part.banksMatch_refill {p q : Part} (h : p.banksMatch) (k : Fin 4) (odd : Bool)
    (hruns : ∀ j : Fin 4, j ≠ k → q.runs[j].state = p.runs[j].state)
    (hbanks : ∀ c : Fin 8, c ≠ bankOf k odd → q.banks[c].state = p.banks[c].state)
    (hold : p.banks[bankOf k odd].state ≠ .closed ∧ p.banks[bankOf k odd].state ≠ .processing)
    (hnew : q.banks[bankOf k odd].state ≠ .closed ∧ q.banks[bankOf k odd].state ≠ .processing)
    (hthis : q.banks[bankOf k odd].state = .filling ↔ q.runs[k].state = .active odd)
    (hother : p.banks[bankOf k !odd].state = .filling ↔ q.runs[k].state = .active !odd)
    (hengine : q.engine = p.engine) : q.banksMatch := by
  obtain ⟨hqueue, hhand⟩ := h.unused hold.1 hold.2
  refine Part.banksMatch_move h k odd hruns hbanks hthis hother ?_ ?_ ?_ ?_ ?_ <;> rw [hengine]
  · exact h.2.1
  · exact fun _ _ => Iff.rfl
  · exact iff_of_false hqueue hnew.1
  · exact fun _ _ => Iff.rfl
  · exact iff_of_false hnew.2 hhand

/-- A campaign changes without an ACTIVE state before or after. -/
theorem Part.banksMatch_setRun {p : Part} (h : p.banksMatch) (k : Fin 4) (r : Run)
    (hold : ∀ odd, p.runs[k].state ≠ .active odd) (hnew : ∀ odd, r.state ≠ .active odd) : (p.setRun k r).banksMatch := by
  obtain ⟨hfill, hrest⟩ := h
  refine ⟨fun j o => ?_, hrest⟩
  rw [show (p.setRun k r).banks = p.banks from rfl, show (p.setRun k r).runs = p.runs.set k r from rfl, vector_set_get]
  by_cases hj : j = k
  · rw [if_pos hj, hj]
    exact iff_of_false (fun hf => hold o ((hfill k o).mp hf)) (hnew o)
  · rw [if_neg hj]
    exact hfill j o

/-! ### Opening a bank -/

/-- The two ways a campaign is started (R24): a free bank opens, 2k first, or the campaign waits. -/
theorem Part.openOrWait_cases (p : Part) (k : Fin 4) :
    (∃ odd : Bool, p.banks[bankOf k odd].state = .free ∧ (odd = true → p.banks[bankOf k false].state ≠ .free) ∧
      p.openOrWait k = { p with
        runs := p.runs.set k { p.runs[k] with state := .active odd, remaining := p.campTable[k].shots }
        banks := p.banks.set (bankOf k odd) (Bank.opened p.campTable[k].settings) }) ∨
    (∀ odd : Bool, p.banks[bankOf k odd].state ≠ .free) ∧
      p.openOrWait k = { p with
        runs := p.runs.set k { p.runs[k] with state := .waitBank, remaining := p.campTable[k].shots } } := by
  have hopen : ∀ odd, ((p.setRun k { p.runs[k] with remaining := p.campTable[k].shots }).openBank k odd) = { p with
      runs := p.runs.set k { p.runs[k] with state := .active odd, remaining := p.campTable[k].shots }
      banks := p.banks.set (bankOf k odd) (Bank.opened p.campTable[k].settings) } := fun odd => by
    simp only [Part.openBank, Part.setRun, Part.setBank, vector_set_get_same, Vector.set_set]
  unfold Part.openOrWait Part.freeSide
  dsimp only
  rw [show (p.setRun k { p.runs[k] with remaining := p.campTable[k].shots }).banks = p.banks from rfl]
  by_cases h0 : p.banks[bankOf k false].state = .free
  · rw [if_pos h0]
    exact .inl ⟨false, h0, nofun, hopen false⟩
  · rw [if_neg h0]
    by_cases h1 : p.banks[bankOf k true].state = .free
    · rw [if_pos h1]
      exact .inl ⟨true, h1, fun _ => h0, hopen true⟩
    · rw [if_neg h1]
      refine .inr ⟨fun odd => by cases odd <;> assumption, ?_⟩
      simp only [Part.setRun, vector_set_get_same, Vector.set_set]

/-- A campaign that is not ACTIVE takes a bank or waits for one, and the agreement stays (R24). -/
theorem Part.banksMatch.openOrWait {p : Part} (h : p.banksMatch) (k : Fin 4) (hk : ∀ odd, p.runs[k].state ≠ .active odd) :
    (p.openOrWait k).banksMatch := by
  rcases p.openOrWait_cases k with ⟨odd, hfree, -, he⟩ | ⟨-, he⟩ <;> rw [he]
  · refine Part.banksMatch_refill h k odd ?_ ?_ ?_ ?_ ?_ ?_ rfl
    · exact fun j hj => by rw [vector_set_get_ne _ _ hj]
    · exact fun c hc => by rw [vector_set_get_ne _ _ hc]
    · rw [hfree]; exact ⟨nofun, nofun⟩
    · rw [vector_set_get_same]; exact ⟨nofun, nofun⟩
    · rw [vector_set_get_same, vector_set_get_same]; exact iff_of_true rfl rfl
    · rw [vector_set_get_same]
      exact iff_of_false (fun hf => hk _ ((h.1 k !odd).mp hf)) (active_ne_not odd)
  · exact Part.banksMatch_setRun h k _ hk nofun

/-! ### The beginning of processing -/

/-- An IDLE engine begins the head of its queue; with nothing queued or a bank in hand nothing happens (R74). -/
theorem Part.beginNext_idle {p : Part} (h : p.engine.inHand ≠ none ∨ p.engine.queue = []) : p.beginNext = p := by
  unfold Part.beginNext
  split
  · next hi hq => exact absurd h (by simp [hi, hq])
  · rfl

/-- The beginning of processing, with what it fixes left open (R74, R75). -/
theorem Part.beginNext_cons {p : Part} {b : Fin 8} {rest : List (Fin 8)} (hi : p.engine.inHand = none)
    (hq : p.engine.queue = b :: rest) : ∃ lit erefs, p.beginNext = { p with
      banks := p.banks.set b { p.banks[b] with state := .processing }
      engine := { p.engine with inHand := some { bank := b, lit := lit }, queue := rest, lastERef := erefs } } := by
  unfold Part.beginNext
  simp only [hi, hq]
  cases p.banks[b].settings.kind with
  | dark => exact ⟨none, p.engine.lastERef, rfl⟩
  | lit => exact ⟨some (p.litInputs (ownerOf b)), _, rfl⟩

/-- Once the engine has begun what it may, the whole agreement holds (R74). -/
theorem Part.banksMatch.beginNext {p : Part} (h : p.banksMatch) : p.beginNext.banksAgree := by
  rw [Part.banksAgree_iff]
  by_cases hidle : p.engine.inHand ≠ none ∨ p.engine.queue = []
  · rw [Part.beginNext_idle hidle]
    exact ⟨h, fun hi => hidle.resolve_left (fun hne => hne hi)⟩
  · rw [not_or, not_not] at hidle
    obtain ⟨hi, hne⟩ := hidle
    obtain ⟨b, rest, hq⟩ := List.exists_cons_of_ne_nil hne
    obtain ⟨lit, erefs, he⟩ := Part.beginNext_cons hi hq
    rw [he]
    refine ⟨?_, nofun⟩
    obtain ⟨hfill, hnodup, hclosed, hproc⟩ := h
    rw [hq, List.nodup_cons] at hnodup
    have hb : p.banks[b].state = .closed := (hclosed b).mp (by rw [hq]; exact List.mem_cons_self)
    have hstate : ∀ c, (p.banks.set b { p.banks[b] with state := .processing })[c].state =
        if c = b then .processing else p.banks[c].state := fun c => by
      rw [vector_set_get]
      split <;> rfl
    refine ⟨fun k odd => ?_, hnodup.2, fun c => ?_, fun c => ?_⟩
    · rw [hstate]
      split
      · next hc =>
        subst hc
        exact iff_of_false nofun ((hfill k odd).not.mp (by rw [hb]; decide))
      · exact hfill k odd
    · rw [hstate]
      split
      · next hc => exact iff_of_false (by rw [hc]; exact hnodup.1) nofun
      · next hc => rw [← hclosed c, hq, List.mem_cons, or_iff_right hc]
    · rw [hstate, Option.map_some, Option.some.injEq]
      split
      · next hc => exact iff_of_true rfl hc.symm
      · next hc =>
        refine iff_of_false (fun hp => ?_) (fun h => hc h.symm)
        rw [hproc c, hi] at hp
        exact nomatch hp

theorem Part.banksAgree.match {p : Part} (h : p.banksAgree) : p.banksMatch := ((Part.banksAgree_iff p).mp h).1

/-! ### Closing a bank -/

/-- The filling bank closed and queued, before the engine has begun what it may (R70). -/
def Part.bankClosed (p : Part) (k : Fin 4) (b : Fin 8) : Part :=
  { p with
    banks := p.banks.set b { p.banks[b] with state := .closed, sequence := p.runs[k].sequence }
    runs := p.runs.set k { p.runs[k] with state := .idle, remaining := 0, sequence := (p.runs[k].sequence + 1) % 65536 }
    engine := { p.engine with queue := p.engine.queue ++ [b] } }

theorem Part.closeBank_eq (p : Part) (k : Fin 4) (b : Fin 8) : p.closeBank k b = (p.bankClosed k b).beginNext := rfl

theorem Part.banksMatch.bankClosed {p : Part} (h : p.banksMatch) {k : Fin 4} {odd : Bool} (hk : p.runs[k].state = .active odd) :
    (p.bankClosed k (bankOf k odd)).banksMatch := by
  have hb : p.banks[bankOf k odd].state = .filling := (h.1 k odd).mpr hk
  obtain ⟨hqueue, hhand⟩ := h.unused (b := bankOf k odd) (by rw [hb]; decide) (by rw [hb]; decide)
  refine Part.banksMatch_move h k odd ?_ ?_ ?_ ?_ ?_ ?_ ?_ ?_ ?_ <;> dsimp only [Part.bankClosed]
  · exact fun j hj => by rw [vector_set_get_ne _ _ hj]
  · exact fun c hc => by rw [vector_set_get_ne _ _ hc]
  · rw [vector_set_get_same, vector_set_get_same]; exact iff_of_false nofun nofun
  · rw [vector_set_get_same, h.1 k !odd, hk]
    exact iff_of_false (active_ne_not odd) nofun
  · rw [List.nodup_append]
    exact ⟨h.2.1, List.nodup_singleton _, fun c hc d hd hcd => hqueue (by rwa [hcd, List.mem_singleton.mp hd] at hc)⟩
  · exact fun c hc => by rw [List.mem_append, List.mem_singleton, or_iff_left hc]
  · rw [vector_set_get_same]; exact iff_of_true (by simp) rfl
  · exact fun _ _ => Iff.rfl
  · rw [vector_set_get_same]; exact iff_of_false nofun hhand

theorem Part.banksMatch.closeBank {p : Part} (h : p.banksMatch) {k : Fin 4} {odd : Bool} (hk : p.runs[k].state = .active odd) :
    (p.closeBank k (bankOf k odd)).banksAgree := (h.bankClosed hk).beginNext

theorem Part.closeBank_runs (p : Part) (k : Fin 4) (b : Fin 8) :
    (p.closeBank k b).runs =
      p.runs.set k { p.runs[k] with state := .idle, remaining := 0, sequence := (p.runs[k].sequence + 1) % 65536 } := by
  rw [Part.closeBank_frame]

theorem Part.banksAgree.openOrWait {p : Part} (h : p.banksAgree) (k : Fin 4) (hk : ∀ odd, p.runs[k].state ≠ .active odd) :
    (p.openOrWait k).banksAgree := by
  rw [Part.banksAgree_iff] at h ⊢
  refine ⟨h.1.openOrWait k hk, ?_⟩
  rw [Part.openOrWait_frame]
  exact h.2

/-- An accepted shot, at terminal count or before it, keeps the agreement (R32, R33). -/
theorem Part.banksAgree.countedDown {p : Part} (h : p.banksAgree) (k : Fin 4) : (p.countedDown k).banksAgree := by
  unfold Part.countedDown
  split
  · next odd hk =>
    split
    · unfold Part.goesOn
      split
      · exact h.match.closeBank hk
      · refine (h.match.closeBank hk).openOrWait k fun o => ?_
        rw [Part.closeBank_runs, vector_set_get_same]
        exact nofun
    · refine Part.banksAgree_of_same h (fun j => ?_) (fun _ => rfl) rfl rfl
      rw [show (p.setRun k { p.runs[k] with remaining := p.runs[k].remaining - 1 }).runs = p.runs.set k _ from rfl, vector_set_get]
      split
      · next hj => rw [hj]
      · rfl
  · exact h

/-! ### Stopping a campaign and freeing a bank -/

theorem Part.banksMatch.stopCampaign {p : Part} (h : p.banksMatch) (k : Fin 4) : (p.stopCampaign k).banksMatch := by
  have habandon : ∀ q : Part, (q.abandonShotOf k).runs = q.runs ∧ (q.abandonShotOf k).banks = q.banks ∧
      (q.abandonShotOf k).engine = q.engine := fun q => by
    unfold Part.abandonShotOf
    split
    · split <;> exact ⟨rfl, rfl, rfl⟩
    · exact ⟨rfl, rfl, rfl⟩
  obtain ⟨hr, hb, he⟩ := habandon p
  have hq : (p.abandonShotOf k).banksMatch :=
    Part.banksMatch_of_same h (fun _ => by rw [hr]) (fun _ => by rw [hb]) (by rw [he]) (by rw [he])
  unfold Part.stopCampaign
  dsimp only
  split
  · exact hq
  · next hk => exact Part.banksMatch_setRun hq k _ (fun odd => by rw [hr, hk]; exact nofun) nofun
  · next odd hk =>
    have hfill : (p.abandonShotOf k).banks[bankOf k odd].state = .filling := (hq.1 k odd).mpr (by rw [hr, hk])
    unfold Part.setRun Part.setBank
    refine Part.banksMatch_refill hq k odd ?_ ?_ ?_ ?_ ?_ ?_ rfl
    · exact fun j hj => by rw [vector_set_get_ne _ _ hj]
    · exact fun c hc => by rw [vector_set_get_ne _ _ hc]
    · rw [hfill]; exact ⟨nofun, nofun⟩
    · rw [vector_set_get_same]; exact ⟨nofun, nofun⟩
    · rw [vector_set_get_same, vector_set_get_same]; exact iff_of_false nofun nofun
    · rw [vector_set_get_same, hq.1 k !odd, hr, hk]
      exact iff_of_false (active_ne_not odd) nofun

/-- The two ways a bank is freed (R35, R71): its owner opens it at once when it waits, and counts it in any case. -/
theorem Part.freeBank_cases (p : Part) (k : Fin 4) (odd : Bool) :
    (p.runs[k].state ≠ .waitBank ∧ p.freeBank (bankOf k odd) = { p with
      banks := p.banks.set (bankOf k odd) { p.banks[bankOf k odd] with state := .free }
      runs := p.runs.set k { p.runs[k] with completed := (p.runs[k].completed + 1) % 65536 } }) ∨
    (p.runs[k].state = .waitBank ∧ p.freeBank (bankOf k odd) = { p with
      banks := p.banks.set (bankOf k odd) (Bank.opened p.campTable[k].settings)
      runs := p.runs.set k
        { p.runs[k] with completed := (p.runs[k].completed + 1) % 65536, state := .active odd } }) := by
  have hodd : decide ((bankOf k odd).val % 2 = 1) = odd := by revert k odd; decide
  unfold Part.freeBank
  simp only [ownerOf_bankOf, hodd]
  split
  · next hk =>
    refine .inr ⟨hk, ?_⟩
    simp only [Part.openBank, Part.setRun, Part.setBank, vector_set_get_same, Vector.set_set]
  · next hk => exact .inl ⟨hk, rfl⟩

/-- Every bank is one of its owner's two. -/
theorem exists_bankOf (b : Fin 8) : ∃ k odd, b = bankOf k odd := ⟨_, _, (bankOf_ownerOf b).symm⟩

/-- The bank in hand is freed and the engine is IDLE: the agreement holds between two banks (R71, R74). -/
theorem Part.banksMatch.freeBank {p : Part} (h : p.banksMatch) {x : InHand} (hx : p.engine.inHand = some x) :
    Part.banksMatch { p.freeBank x.bank with engine := { p.engine with inHand := none } } := by
  obtain ⟨b, lit⟩ := x
  obtain ⟨k, odd, rfl⟩ := exists_bankOf b
  have hproc : p.banks[bankOf k odd].state = .processing := (h.2.2.2 _).mpr (by rw [hx]; rfl)
  have hqueue : bankOf k odd ∉ p.engine.queue := (h.2.2.1 _).not.mpr (by rw [hproc]; decide)
  have hnot : p.runs[k].state ≠ .active odd := (h.1 k odd).not.mp (by rw [hproc]; decide)
  have hhand : ∀ c : Fin 8, c ≠ bankOf k odd → ((none : Option InHand).map InHand.bank = some c ↔
      p.engine.inHand.map InHand.bank = some c) := fun c hc =>
    iff_of_false nofun (by rw [hx, Option.map_some, Option.some.injEq]; exact fun he => hc he.symm)
  rcases p.freeBank_cases k odd with ⟨hw, he⟩ | ⟨hw, he⟩ <;> rw [he] <;>
    refine Part.banksMatch_move h k odd ?_ ?_ ?_ ?_ h.2.1 (fun _ _ => Iff.rfl) ?_ hhand ?_
  · exact fun j hj => by rw [vector_set_get_ne _ _ hj]
  · exact fun c hc => by rw [vector_set_get_ne _ _ hc]
  · rw [vector_set_get_same, vector_set_get_same]; exact iff_of_false nofun hnot
  · rw [vector_set_get_same]; exact h.1 k !odd
  · rw [vector_set_get_same]; exact iff_of_false hqueue nofun
  · rw [vector_set_get_same]; exact iff_of_false nofun nofun
  · exact fun j hj => by rw [vector_set_get_ne _ _ hj]
  · exact fun c hc => by rw [vector_set_get_ne _ _ hc]
  · rw [vector_set_get_same, vector_set_get_same]; exact iff_of_true rfl rfl
  · rw [vector_set_get_same, h.1 k !odd, hw]
    exact iff_of_false nofun (active_ne_not odd)
  · rw [vector_set_get_same]; exact iff_of_false hqueue nofun
  · rw [vector_set_get_same]; exact iff_of_false nofun nofun

/-! ### The agreement through every step -/

/-- A deferred command leaves banks, campaigns and engine but its dark reference alone. -/
theorem Part.deferredDone_frame (p : Part) :
    p.deferredDone.runs = p.runs ∧ p.deferredDone.banks = p.banks ∧ p.deferredDone.engine.queue = p.engine.queue ∧
      p.deferredDone.engine.inHand = p.engine.inHand ∧ p.deferredDone.shot = p.shot ∧ p.deferredDone.port = p.port ∧
      p.deferredDone.pendingCharge = p.pendingCharge ∧ p.deferredDone.boot = p.boot := by
  unfold Part.deferredDone
  split
  · rw [Part.written_frame]; exact ⟨rfl, rfl, rfl, rfl, rfl, rfl, rfl, rfl⟩
  · exact ⟨rfl, rfl, rfl, rfl, rfl, rfl, rfl, rfl⟩
  · exact ⟨rfl, rfl, rfl, rfl, rfl, rfl, rfl, rfl⟩

theorem Part.atReset_banksAgree (straps : BitVec 2) (head lock : Bool) (st : Store) (n : Nat) :
    (Part.atReset straps head lock st n).banksAgree := by
  refine ⟨fun k odd => ?_, List.nodup_nil, fun b => ?_, fun b => ?_, fun _ => rfl⟩ <;>
    simp [Part.atReset, Bank.cleared, Run.reset]

theorem Part.restart_banksAgree (p : Part) : p.restartShot.restartMeasuring.restartFlags.banksAgree := by
  refine ⟨fun k odd => ?_, List.nodup_nil, fun b => ?_, fun b => ?_, fun _ => rfl⟩
  · have hidle : p.restartShot.restartMeasuring.restartFlags.runs[k].state = .idle := by
      fin_cases k <;> rfl
    rw [hidle]
    simp [Part.restartFlags, Part.restartMeasuring, Bank.cleared]
  · simp [Part.restartFlags, Part.restartMeasuring, Bank.cleared]
  · simp [Part.restartFlags, Part.restartMeasuring, Bank.cleared]

/-- A bank whose counts alone change keeps its state. -/
theorem setBank_state {v : Vector Bank 8} {b : Fin 8} {x : Bank} (h : x.state = v[b].state) (c : Fin 8) :
    (v.set b x)[c].state = v[c].state := by
  rw [vector_set_get]
  split
  · next hc => rw [h, hc]
  · rfl

theorem Part.rejected_banks_state (p : Part) (s : Shot) (reason : ShotReason) (tag : Option Byte) (energy : Option Nat)
    (c : Fin 8) : (p.rejected s reason tag energy).banks[c].state = p.banks[c].state := by
  rw [Part.rejected_frame]
  dsimp only
  split
  · rfl
  · refine setBank_state (v := p.banks) (b := s.target) ?_ c
    rfl

theorem Part.banksAgree.rejected {p : Part} (h : p.banksAgree) (s : Shot) (reason : ShotReason) (tag : Option Byte)
    (energy : Option Nat) : (p.rejected s reason tag energy).banksAgree :=
  Part.banksAgree_of_same h (fun _ => by rw [Part.rejected_frame]) (p.rejected_banks_state s reason tag energy)
    (by rw [Part.rejected_frame]) (by rw [Part.rejected_frame])

theorem Part.banksAgree.shotLost {p : Part} (h : p.banksAgree) (reason : ShotReason) : (p.shotLost reason).banksAgree := by
  unfold Part.shotLost
  split
  · exact h.rejected _ _ _ _
  · exact h

/-- A bank that takes a record keeps its state and counts it (R68). -/
theorem Bank.add_state (b : Bank) (g : Gates) (r : Record) (kind : Kind) (tick : Nat) : (b.add g r kind tick).state = b.state := by
  unfold Bank.add
  rfl

theorem Bank.add_accepted (b : Bank) (g : Gates) (r : Record) (kind : Kind) (tick : Nat) :
    (b.add g r kind tick).accepted = b.accepted + 1 := by
  unfold Bank.add
  rfl

theorem Part.accumulate_banks (p : Part) (s : Shot) (r : Record) :
    (p.accumulate s r).banks = p.banks.set s.target (p.banks[s.target].add p.gates r s.kind p.ticks) := rfl

theorem Part.banksAgree.accumulate {p : Part} (h : p.banksAgree) (s : Shot) (r : Record) : (p.accumulate s r).banksAgree :=
  Part.banksAgree_of_same h (fun _ => rfl) (fun c => by rw [Part.accumulate_banks]; exact setBank_state (Bank.add_state _ _ _ _ _) c)
    rfl rfl

theorem Part.banksAgree.accepted {p : Part} (h : p.banksAgree) (s : Shot) (r : Record) : (p.accepted s r).banksAgree :=
  (Part.banksAgree.accumulate (p := p.removeShot.charged (some r.energy)) h s r).countedDown s.campaign

theorem Part.banksAgree.setHeld {p : Part} (h : p.banksAgree) (k : Fin 4) (b : Bool) :
    (p.setRun k { p.runs[k] with held := b }).banksAgree := by
  refine Part.banksAgree_of_same h (fun j => ?_) (fun _ => rfl) rfl rfl
  rw [show (p.setRun k { p.runs[k] with held := b }).runs = p.runs.set k _ from rfl, vector_set_get]
  split
  · next hj => rw [hj]
  · rfl

/-- Every change behind the outbound side keeps the agreement. -/
theorem Part.Core.banksAgree {p q : Part} (h : p.banksAgree) (hc : p.Core q) : q.banksAgree := by
  cases hc with
  | loseLock => exact Part.banksAgree.shotLost (p := (p.setLock (.unlocked 0)).setRx .off) h _
  | reject s _ _ _ _ => exact h.rejected _ _ _ _
  | accept s _ _ r => exact h.accepted s r
  | restart => exact p.restart_banksAgree
  | openOrWait k hidle _ => exact h.openOrWait k fun odd => by rw [hidle]; exact nofun
  | stop k =>
    rw [Part.banksAgree_iff] at h ⊢
    refine ⟨h.1.stopCampaign k, ?_⟩
    rw [Part.stopCampaign_frame]
    exact h.2
  | setHeld k b => exact h.setHeld k b
  | load t start es _ _ _ => rw [Part.written_frame]; exact h
  | _ => exact h

theorem Part.periodEnd_banksAgree {p : Part} (h : p.banksAgree) : p.periodEnd.banksAgree := by
  rcases p.periodEnd_cases with he | he | ⟨-, hl | ⟨k, b, -, -, -, he⟩⟩
  · rwa [he]
  · rw [he]; exact h
  · exact hl.keeps (P := Part.banksAgree) fun _ => h
  · rw [he]
    refine Part.banksAgree_of_same (p := p) h (fun _ => rfl) (fun c => ?_) rfl rfl
    refine setBank_state (v := p.banks) (b := b) ?_ c
    rfl

/-- The freeing of the bank in hand and the beginning of the next keep the agreement (R77). -/
theorem Part.banksAgree.complete {p : Part} (h : p.banksAgree) {x : InHand} (hx : p.engine.inHand = some x) :
    ((p.freeBank x.bank).deferredDone).nextBank.banksAgree := by
  obtain ⟨hr, hb, hq, -⟩ := (p.freeBank x.bank).deferredDone_frame
  refine Part.banksMatch.beginNext (Part.banksMatch_of_same (h.match.freeBank hx) (fun _ => by rw [hr]) (fun _ => by rw [hb])
    (hq.trans ?_) rfl)
  rw [Part.freeBank_frame]

/-- Settles O46. -/
theorem banksAgreeKept : Obligations.BanksAgreeKept := fun _ _ hs h =>
  step_keeps (P := Part.banksAgree) (fun _ _ h => h) (fun _ _ _ _ _ => Part.atReset_banksAgree _ _ _ _ _)
    (fun _ => Part.periodEnd_banksAgree) (fun _ _ h hc => hc.banksAgree h) (fun _ _ _ h => h) (fun _ _ h => h)
    (fun _ _ hx h => h.complete hx) hs h

end Sys2Proof.Machine

/-! Counts and shots (R9, R20, R27, R32, R33, R55, R67, R78, R165): the counts of campaigns and banks, the shot in flight with its
timer, charge, lock and bank, and their agreement through every step. -/

namespace Sys2Proof.Machine

/-! ### The counts of campaigns and banks -/

/-- The counts agree: those of each campaign, and a closed bank holds a record. -/
def Part.countsFit (p : Part) : Prop :=
  (∀ k : Fin 4, 1 ≤ p.campTable[k].shots ∧ p.runCounts k) ∧ ∀ b : Fin 8, p.banks[b].closedFull

/-- The counts of a campaign look at its run state, its shots value and the accepted count of its filling bank. -/
theorem Part.runCounts_of_same {p q : Part} {k : Fin 4} (h : p.runCounts k) (hstate : q.runs[k].state = p.runs[k].state)
    (hremaining : q.runs[k].remaining = p.runs[k].remaining) (hshots : q.campTable[k].shots = p.campTable[k].shots)
    (haccepted : ∀ odd, q.banks[bankOf k odd].accepted = p.banks[bankOf k odd].accepted) : q.runCounts k := by
  unfold Part.runCounts at h ⊢
  rw [hstate, hremaining, hshots]
  split
  · next hs => simpa only [hs] using h
  · next hs => simpa only [hs] using h
  · next odd hs =>
    rw [haccepted]
    simpa only [hs] using h

theorem Part.runCounts_idle {p : Part} {k : Fin 4} (hs : p.runs[k].state = .idle) : p.runCounts k ↔ p.runs[k].remaining = 0 := by
  unfold Part.runCounts
  rw [hs]

theorem Part.runCounts_waitBank {p : Part} {k : Fin 4} (hs : p.runs[k].state = .waitBank) :
    p.runCounts k ↔ p.runs[k].remaining = p.campTable[k].shots := by
  unfold Part.runCounts
  rw [hs]

theorem Part.runCounts_active {p : Part} {k : Fin 4} {odd : Bool} (hs : p.runs[k].state = .active odd) :
    p.runCounts k ↔ 1 ≤ p.runs[k].remaining ∧
      p.runs[k].remaining + p.banks[bankOf k odd].accepted = p.campTable[k].shots := by
  unfold Part.runCounts
  rw [hs]

theorem Bank.closedFull_of_same {b x : Bank} (h : b.closedFull) (hstate : x.state = b.state) (haccepted : x.accepted = b.accepted) :
    x.closedFull := by
  unfold Bank.closedFull at h ⊢
  rwa [hstate, haccepted]

theorem Bank.closedFull_of_open {b : Bank} (hc : b.state ≠ .closed) (hp : b.state ≠ .processing) : b.closedFull :=
  fun h => absurd h (not_or.mpr ⟨hc, hp⟩)

theorem Part.countsFit_of_same {p q : Part} (h : p.countsFit) (htable : q.campTable = p.campTable)
    (hruns : ∀ k : Fin 4, q.runs[k].state = p.runs[k].state ∧ q.runs[k].remaining = p.runs[k].remaining)
    (hbanks : ∀ b : Fin 8, q.banks[b].state = p.banks[b].state ∧ q.banks[b].accepted = p.banks[b].accepted) : q.countsFit :=
  ⟨fun k => ⟨by rw [htable]; exact (h.1 k).1, Part.runCounts_of_same (h.1 k).2 (hruns k).1 (hruns k).2 (by rw [htable])
      fun _ => (hbanks _).2⟩,
    fun b => Bank.closedFull_of_same (h.2 b) (hbanks b).1 (hbanks b).2⟩

/-- One campaign and one of its banks move: the counts to show are theirs alone. -/
theorem Part.countsFit_move {p q : Part} (k : Fin 4) (odd : Bool) (hshots : ∀ j : Fin 4, 1 ≤ p.campTable[j].shots)
    (hcounts : ∀ j : Fin 4, j ≠ k → p.runCounts j) (hfull : ∀ c : Fin 8, c ≠ bankOf k odd → p.banks[c].closedFull)
    (htable : q.campTable = p.campTable) (hruns : ∀ j : Fin 4, j ≠ k → q.runs[j] = p.runs[j])
    (hbanks : ∀ c : Fin 8, c ≠ bankOf k odd → q.banks[c] = p.banks[c]) (hthis : q.runCounts k)
    (hbank : q.banks[bankOf k odd].closedFull) : q.countsFit := by
  refine ⟨fun j => ⟨by rw [htable]; exact hshots j, ?_⟩, fun c => ?_⟩
  · by_cases hj : j = k
    · rw [hj]; exact hthis
    · exact Part.runCounts_of_same (hcounts j hj) (by rw [hruns j hj]) (by rw [hruns j hj]) (by rw [htable])
        fun o => by rw [hbanks _ (bankOf_ne_of_ne o odd hj)]
  · by_cases hc : c = bankOf k odd
    · rw [hc]; exact hbank
    · rw [hbanks c hc]; exact hfull c hc

/-- A campaign takes a bank, empty, or waits for one with its whole shots value (R24, R34). -/
theorem Part.countsFit.openOrWait {p : Part} (h : p.countsFit) (k : Fin 4) : (p.openOrWait k).countsFit := by
  obtain ⟨hk, hfull⟩ := h
  rcases p.openOrWait_cases k with ⟨odd, -, -, he⟩ | ⟨-, he⟩ <;> rw [he]
  · refine Part.countsFit_move (p := p) k odd (fun j => (hk j).1) (fun j _ => (hk j).2) (fun c _ => hfull c) rfl ?_ ?_ ?_ ?_
    · exact fun j hj => by rw [vector_set_get_ne _ _ hj]
    · exact fun c hc => by rw [vector_set_get_ne _ _ hc]
    · rw [Part.runCounts_active (odd := odd) (by rw [vector_set_get_same]), vector_set_get_same, vector_set_get_same]
      exact ⟨(hk k).1, rfl⟩
    · rw [vector_set_get_same]
      exact Bank.closedFull_of_open nofun nofun
  · refine Part.countsFit_move (p := p) k false (fun j => (hk j).1) (fun j _ => (hk j).2) (fun c _ => hfull c) rfl ?_ (fun _ _ => rfl)
      ?_ (hfull _)
    · exact fun j hj => by rw [vector_set_get_ne _ _ hj]
    · rw [Part.runCounts_waitBank (by rw [vector_set_get_same]), vector_set_get_same]

/-- STOP leaves nothing to count (R25). -/
theorem Part.countsFit.stopCampaign {p : Part} (h : p.countsFit) (k : Fin 4) : (p.stopCampaign k).countsFit := by
  have habandon : (p.abandonShotOf k).campTable = p.campTable ∧ (p.abandonShotOf k).runs = p.runs ∧
      (p.abandonShotOf k).banks = p.banks := by
    unfold Part.abandonShotOf
    split
    · split <;> exact ⟨rfl, rfl, rfl⟩
    · exact ⟨rfl, rfl, rfl⟩
  obtain ⟨ht, hr, hb⟩ := habandon
  have hq : (p.abandonShotOf k).countsFit := Part.countsFit_of_same h ht (fun _ => by rw [hr]; exact ⟨rfl, rfl⟩)
    (fun _ => by rw [hb]; exact ⟨rfl, rfl⟩)
  obtain ⟨hk, hfull⟩ := hq
  have hruns : ∀ (r : Run) (j : Fin 4), j ≠ k → ((p.abandonShotOf k).runs.set k r)[j] = (p.abandonShotOf k).runs[j] :=
    fun r j hj => by rw [vector_set_get_ne _ _ hj]
  unfold Part.stopCampaign Part.setRun Part.setBank
  dsimp only
  split
  · exact ⟨hk, hfull⟩
  · refine Part.countsFit_move (p := p.abandonShotOf k) k false (fun j => (hk j).1) (fun j _ => (hk j).2) (fun c _ => hfull c) rfl
      (hruns _) (fun _ _ => rfl) ?_ (hfull _)
    rw [Part.runCounts_idle (by rw [vector_set_get_same]), vector_set_get_same]
  · next odd _ =>
    refine Part.countsFit_move (p := p.abandonShotOf k) k odd (fun j => (hk j).1) (fun j _ => (hk j).2) (fun c _ => hfull c) rfl
      (hruns _) (fun c hc => by rw [vector_set_get_ne _ _ hc]) ?_ ?_
    · rw [Part.runCounts_idle (by rw [vector_set_get_same]), vector_set_get_same]
    · rw [vector_set_get_same]
      exact Bank.closedFull_of_open nofun nofun

/-- The bank that is begun was closed, and so holds a record (R74, R78). -/
theorem Part.countsFit.beginNext {p : Part} (h : p.countsFit) (hm : p.banksMatch) : p.beginNext.countsFit := by
  by_cases hidle : p.engine.inHand ≠ none ∨ p.engine.queue = []
  · rwa [Part.beginNext_idle hidle]
  · rw [not_or, not_not] at hidle
    obtain ⟨b, rest, hq⟩ := List.exists_cons_of_ne_nil hidle.2
    obtain ⟨lit, erefs, he⟩ := Part.beginNext_cons hidle.1 hq
    have hb : p.banks[b].state = .closed := (hm.2.2.1 b).mp (by rw [hq]; exact List.mem_cons_self)
    have haccepted : ∀ c : Fin 8, (p.banks.set b { p.banks[b] with state := .processing })[c].accepted = p.banks[c].accepted := fun c => by
      rw [vector_set_get]
      split
      · next hc => rw [hc]
      · rfl
    rw [he]
    refine ⟨fun k => ⟨(h.1 k).1, Part.runCounts_of_same (h.1 k).2 rfl rfl rfl fun odd => haccepted _⟩, fun c => ?_⟩
    by_cases hc : c = b
    · rw [hc, vector_set_get_same]
      exact fun _ => h.2 b (.inl hb)
    · dsimp only
      rw [vector_set_get_ne _ _ hc]
      exact h.2 c

/-- Before its count goes down, the campaign of an accepted record counts one shot too many (R32, R68). -/
structure Part.CountsOver (p : Part) (k : Fin 4) (odd : Bool) : Prop where
  state : p.runs[k].state = .active odd
  shots : ∀ j : Fin 4, 1 ≤ p.campTable[j].shots
  others : ∀ j : Fin 4, j ≠ k → p.runCounts j
  full : ∀ b : Fin 8, p.banks[b].closedFull
  remaining : 1 ≤ p.runs[k].remaining
  total : p.runs[k].remaining + p.banks[bankOf k odd].accepted = p.campTable[k].shots + 1
  accepted : 1 ≤ p.banks[bankOf k odd].accepted

theorem Part.CountsOver.bankClosed {p : Part} {k : Fin 4} {odd : Bool} (h : p.CountsOver k odd) :
    (p.bankClosed k (bankOf k odd)).countsFit := by
  refine Part.countsFit_move (p := p) k odd h.shots h.others (fun c _ => h.full c) rfl ?_ ?_ ?_ ?_
  · exact fun j hj => by rw [Part.bankClosed, vector_set_get_ne _ _ hj]
  · exact fun c hc => by rw [Part.bankClosed, vector_set_get_ne _ _ hc]
  · rw [Part.runCounts_idle (by rw [Part.bankClosed, vector_set_get_same]), Part.bankClosed, vector_set_get_same]
  · rw [Part.bankClosed, vector_set_get_same]
    exact fun _ => h.accepted

/-- The remaining count goes down, or the bank closes with its records (R32, R33). -/
theorem Part.CountsOver.countedDown {p : Part} {k : Fin 4} {odd : Bool} (h : p.CountsOver k odd) (hm : p.banksMatch) :
    (p.countedDown k).countsFit := by
  unfold Part.countedDown
  rw [h.state]
  dsimp only
  split
  · have hclose : (p.closeBank k (bankOf k odd)).countsFit := h.bankClosed.beginNext (hm.bankClosed h.state)
    unfold Part.goesOn
    split
    · exact hclose
    · exact hclose.openOrWait k
  · next hrem =>
    have hover := h.total
    refine Part.countsFit_move (p := p) k odd h.shots h.others (fun c _ => h.full c) rfl ?_ (fun _ _ => rfl) ?_ (h.full _)
    · exact fun j hj => by rw [Part.setRun, vector_set_get_ne _ _ hj]
    · rw [Part.runCounts_active (odd := odd) (by rw [Part.setRun, vector_set_get_same]; exact h.state)]
      rw [show (p.setRun k { p.runs[k] with remaining := p.runs[k].remaining - 1 }).runs = p.runs.set k _ from rfl,
        vector_set_get_same]
      refine ⟨by dsimp only; omega, ?_⟩
      show p.runs[k].remaining - 1 + p.banks[bankOf k odd].accepted = p.campTable[k].shots
      omega

/-- A freed bank counts as free, or opens empty for a campaign that waits with its whole shots value (R35, R71). -/
theorem Part.countsFit.freeBank {p : Part} (h : p.countsFit) (hm : p.banksMatch) {x : InHand} (hx : p.engine.inHand = some x) :
    (p.freeBank x.bank).countsFit := by
  obtain ⟨b, lit⟩ := x
  obtain ⟨k, odd, rfl⟩ := exists_bankOf b
  have hproc : p.banks[bankOf k odd].state = .processing := (hm.2.2.2 _).mpr (by rw [hx]; rfl)
  have hnot : p.runs[k].state ≠ .active odd := (hm.1 k odd).not.mp (by rw [hproc]; decide)
  obtain ⟨hk, hfull⟩ := h
  rcases p.freeBank_cases k odd with ⟨hw, he⟩ | ⟨hw, he⟩ <;> rw [he] <;>
    refine Part.countsFit_move (p := p) k odd (fun j => (hk j).1) (fun j _ => (hk j).2) (fun c _ => hfull c) rfl ?_ ?_ ?_ ?_
  · exact fun j hj => by rw [vector_set_get_ne _ _ hj]
  · exact fun c hc => by rw [vector_set_get_ne _ _ hc]
  · have hcounts := (hk k).2
    cases hs : p.runs[k].state with
    | idle =>
      rw [Part.runCounts_idle hs] at hcounts
      rw [Part.runCounts_idle (by rw [vector_set_get_same]; exact hs), vector_set_get_same]
      exact hcounts
    | waitBank => exact absurd hs hw
    | active o =>
      have ho : bankOf k o ≠ bankOf k odd := fun hb => hnot (by rw [hs, (bankOf_inj hb).2])
      rw [Part.runCounts_active hs] at hcounts
      rw [Part.runCounts_active (odd := o) (by rw [vector_set_get_same]; exact hs), vector_set_get_same, vector_set_get_ne _ _ ho]
      exact hcounts
  · rw [vector_set_get_same]
    exact Bank.closedFull_of_open nofun nofun
  · exact fun j hj => by rw [vector_set_get_ne _ _ hj]
  · exact fun c hc => by rw [vector_set_get_ne _ _ hc]
  · have hcounts := (hk k).2
    rw [Part.runCounts_waitBank hw] at hcounts
    rw [Part.runCounts_active (odd := odd) (by rw [vector_set_get_same]), vector_set_get_same, vector_set_get_same]
    exact ⟨hcounts ▸ (hk k).1, hcounts⟩
  · rw [vector_set_get_same]
    exact Bank.closedFull_of_open nofun nofun

/-! ### The shot in flight -/

/-- The filling bank of a shot stays while its campaign stays ACTIVE on it. -/
theorem Part.shotTargetsFilling_of {p q : Part} (h : p.shotTargetsFilling) (hs : q.shot = p.shot)
    (hruns : ∀ (k : Fin 4) (odd : Bool), p.runs[k].state = .active odd → q.runs[k].state = .active odd) :
    q.shotTargetsFilling := by
  unfold Part.shotTargetsFilling at h ⊢
  rw [hs]
  split
  · next s hsome =>
    rw [hsome] at h
    refine h.imp_right fun hfill => ?_
    unfold Part.fillingBank at hfill ⊢
    split at hfill
    · next odd hk => rw [hruns _ odd hk]; exact hfill
    · exact nomatch hfill
  · trivial

theorem Part.receiverFits_of_same {p q : Part} (h : p.receiverFits) (hrx : q.port.rx = p.port.rx) (hlock : q.port.lock = p.port.lock)
    (hs : q.shot.isSome = p.shot.isSome) : q.receiverFits := by
  have hlocked : q.port.isLocked = p.port.isLocked := by unfold Port.isLocked; rw [hlock]
  unfold Part.receiverFits at h ⊢
  rw [hrx, hlocked, hs]
  exact h

theorem Part.shotAgrees_of_same {p q : Part} (h : p.shotAgrees) (hs : q.shot = p.shot) (htimer : q.port.timer = p.port.timer)
    (hlock : q.port.lock = p.port.lock) (hrx : q.port.rx = p.port.rx) (hcharge : q.pendingCharge = p.pendingCharge)
    (hruns : ∀ (k : Fin 4) (odd : Bool), p.runs[k].state = .active odd → q.runs[k].state = .active odd) : q.shotAgrees := by
  obtain ⟨h1, h2, h3, h4, h5, h6⟩ := h
  have hlocked : q.port.isLocked = p.port.isLocked := by unfold Port.isLocked; rw [hlock]
  have hlit : q.litShot = p.litShot := by unfold Part.litShot; rw [hs]
  exact ⟨by rw [htimer, hs, h1], by rw [hcharge, hlit, h2], by rw [hlocked, hs]; exact h3, Part.shotTargetsFilling_of h4 hs hruns,
    Part.receiverFits_of_same h5 hrx hlock (by rw [hs]), by rw [hlock]; exact h6⟩

/-- A shot has ended: no record is bound to it any more (R45, R49, R53). -/
theorem Part.receiverFits_ended {p q : Part} (h : p.receiverFits) (hrx : q.port.rx = p.port.rx.unbind)
    (hlock : q.port.lock = p.port.lock) : q.receiverFits := by
  have hlocked : q.port.isLocked = p.port.isLocked := by unfold Port.isLocked; rw [hlock]
  unfold Part.receiverFits at h ⊢
  rw [hrx, hlocked]
  cases hp : p.port.rx with
  | off => simpa only [hp, PortRx.unbind] using h
  | settle n => simpa only [hp, PortRx.unbind] using h
  | hunt => simpa only [hp, PortRx.unbind] using h
  | record r =>
    rw [hp] at h
    obtain ⟨hl, hpos, hlen, -⟩ := h
    refine ⟨hl, hpos, hlen, fun hbound => ?_⟩
    dsimp only at hbound
    split at hbound
    · exact nomatch hbound
    · next hne => exact absurd hbound hne

theorem Part.shotAgrees_none {q : Part} (hs : q.shot = none) (htimer : q.port.timer = none) (hcharge : q.pendingCharge = none)
    (hfits : q.receiverFits) (hrange : q.port.lock.inRange) : q.shotAgrees := by
  refine ⟨by rw [htimer, hs]; rfl, ?_, fun _ => hs, ?_, hfits, hrange⟩
  · unfold Part.litShot
    rw [hcharge, hs]
    rfl
  · unfold Part.shotTargetsFilling
    rw [hs]
    trivial

theorem Part.shotAgrees_ended {p q : Part} (h : p.shotAgrees) (hs : q.shot = none) (htimer : q.port.timer = none)
    (hlock : q.port.lock = p.port.lock) (hrx : q.port.rx = p.port.rx.unbind) (hcharge : q.pendingCharge = none) : q.shotAgrees := by
  obtain ⟨-, -, -, -, h5, h6⟩ := h
  exact Part.shotAgrees_none hs htimer hcharge (Part.receiverFits_ended h5 hrx hlock) (by rw [hlock]; exact h6)

/-- With no shot in flight there is no timer and no charge (R9, R55). -/
theorem Part.shotAgrees.idle {p : Part} (h : p.shotAgrees) (hs : p.shot = none) : p.port.timer = none ∧ p.pendingCharge = none := by
  obtain ⟨h1, h2, -⟩ := h
  unfold Part.litShot at h2
  rw [hs] at h1 h2
  exact ⟨by simpa using h1, by simpa using h2⟩

/-- Loss of lock leaves no shot and no receiver (R43). -/
theorem Part.shotAgrees.loseLock {p : Part} (h : p.shotAgrees) :
    (((p.setLock (.unlocked 0)).setRx .off).shotLost .lost).shotAgrees := by
  have hoff : ∀ q : Part, q.shot = none → q.port.timer = none → q.port.lock = .unlocked 0 → q.port.rx = .off →
      q.pendingCharge = none → q.shotAgrees := fun q hs ht hl hr hc => by
    have hlocked : q.port.isLocked = false := by unfold Port.isLocked; rw [hl]
    exact Part.shotAgrees_none hs ht hc (by unfold Part.receiverFits; rw [hr]; exact hlocked) (by rw [hl]; exact show 0 < 16 by decide)
  cases hs : p.shot with
  | none =>
    obtain ⟨ht, hc⟩ := h.idle hs
    have he : ((p.setLock (.unlocked 0)).setRx .off).shotLost .lost = (p.setLock (.unlocked 0)).setRx .off := by
      unfold Part.shotLost
      rw [show ((p.setLock (.unlocked 0)).setRx .off).shot = p.shot from rfl, hs]
    rw [he]
    exact hoff _ hs ht rfl rfl hc
  | some s =>
    have he : ((p.setLock (.unlocked 0)).setRx .off).shotLost .lost =
        ((p.setLock (.unlocked 0)).setRx .off).rejected s .lost none none := by
      unfold Part.shotLost
      rw [show ((p.setLock (.unlocked 0)).setRx .off).shot = p.shot from rfl, hs]
    rw [he, Part.rejected_frame]
    exact hoff _ rfl rfl rfl rfl rfl

/-- Gain of lock finds no shot and starts to settle (R42, R44). -/
theorem Part.shotAgrees.gainLock {p : Part} (h : p.shotAgrees) :
    ((p.setLock (.locked 0)).setRx (.settle 0)).shotAgrees := by
  obtain ⟨h1, h2, h3, h4, -, -⟩ := h
  exact ⟨h1, h2, nofun, h4, ⟨rfl, by decide⟩, show 0 < 4 by decide⟩

/-- STOP marks its own shot and leaves another's filling bank alone (R25). -/
theorem Part.shotAgrees.stopCampaign {p : Part} (h : p.shotAgrees) (k : Fin 4) : (p.stopCampaign k).shotAgrees := by
  have hother : ∀ j : Fin 4, j ≠ k → (p.stopCampaign k).runs[j] = p.runs[j] := fun j hj => by
    have habandon : (p.abandonShotOf k).runs = p.runs := by
      unfold Part.abandonShotOf
      split
      · split <;> rfl
      · rfl
    unfold Part.stopCampaign Part.setRun Part.setBank
    dsimp only
    split
    · rw [habandon]
    · rw [vector_set_get_ne _ _ hj, habandon]
    · rw [vector_set_get_ne _ _ hj, habandon]
  have hshot : (p.stopCampaign k).shot = (p.abandonShotOf k).shot := by
    unfold Part.stopCampaign
    dsimp only
    split <;> rfl
  have hport : (p.stopCampaign k).port = p.port ∧ (p.stopCampaign k).pendingCharge = p.pendingCharge := by
    rw [Part.stopCampaign_frame]
    exact ⟨rfl, rfl⟩
  cases hs : p.shot with
  | none =>
    have hnone : (p.stopCampaign k).shot = none := Part.stopCampaign_shot_none k hs
    obtain ⟨ht, hc⟩ := h.idle hs
    obtain ⟨h1, h2, h3, h4, h5, h6⟩ := h
    exact Part.shotAgrees_none hnone (by rw [hport.1, ht]) (by rw [hport.2, hc])
      (Part.receiverFits_of_same h5 (by rw [hport.1]) (by rw [hport.1]) (by rw [hnone, hs])) (by rw [hport.1]; exact h6)
  | some s =>
    obtain ⟨h1, h2, h3, h4, h5, h6⟩ := h
    have hmark : ∃ a, (p.stopCampaign k).shot = some { s with abandoned := a } ∧ (s.campaign = k ∨ s.abandoned = true → a = true) := by
      rw [hshot]
      unfold Part.abandonShotOf
      rw [hs]
      dsimp only
      by_cases hk : s.campaign = k
      · rw [if_pos hk]
        exact ⟨true, rfl, fun _ => rfl⟩
      · rw [if_neg hk, hs]
        exact ⟨s.abandoned, rfl, fun ha => ha.resolve_left hk⟩
    obtain ⟨a, hsome, ha⟩ := hmark
    refine ⟨?_, ?_, ?_, ?_, Part.receiverFits_of_same h5 (by rw [hport.1]) (by rw [hport.1]) (by rw [hsome, hs]; rfl),
      by rw [hport.1]; exact h6⟩
    · rw [hport.1, h1, hsome, hs]
      rfl
    · rw [hport.2, h2]
      unfold Part.litShot
      rw [hsome, hs]
    · rw [hport.1]
      exact fun hl => absurd (h3 hl) (by rw [hs]; exact nofun)
    · unfold Part.shotTargetsFilling at h4 ⊢
      rw [hs] at h4
      rw [hsome]
      dsimp only at h4 ⊢
      by_cases hk : s.campaign = k
      · exact .inl (ha (.inl hk))
      · refine h4.imp (fun h => ha (.inr h)) fun hfill => ?_
        unfold Part.fillingBank at hfill ⊢
        rw [hother _ hk]
        exact hfill

/-- A grant makes a shot that fits (R9, R27, R31, R55). -/
theorem Part.shotAgrees.grant {p : Part} (h : p.shotAgrees) (hs : p.shot = none) {k : Fin 4} {b : Fin 8}
    (hlock : p.port.isLocked = true) (hfill : p.fillingBank k = some b) : (p.grant k b).shotAgrees := by
  obtain ⟨-, hc⟩ := h.idle hs
  obtain ⟨-, -, -, -, h5, h6⟩ := h
  refine ⟨rfl, ?_, fun hl => absurd (hlock.symm.trans hl) (by decide), .inr hfill, ?_, h6⟩
  · show (if p.campTable[k].settings.kind = .lit then some p.chargeAtGrant else p.pendingCharge).isSome =
      decide (p.campTable[k].settings.kind = .lit)
    split
    · next hk => rw [decide_eq_true hk]; rfl
    · next hk => rw [decide_eq_false hk, hc]; rfl
  · unfold Part.receiverFits at h5 ⊢
    show match p.port.rx with
      | .off => p.port.isLocked = false
      | .settle n => p.port.isLocked = true ∧ n < 4
      | .hunt => p.port.isLocked = true
      | .record r => p.port.isLocked = true ∧ 1 ≤ r.position ∧ r.position < recordWords ∧ (r.bound = .inFlight → true = true)
    cases hr : p.port.rx with
    | off => simpa only [hr] using h5
    | settle n => simpa only [hr] using h5
    | hunt => simpa only [hr] using h5
    | record r =>
      rw [hr] at h5
      exact ⟨h5.1, h5.2.1, h5.2.2.1, fun _ => rfl⟩

end Sys2Proof.Machine

/-! Counts and shots through every step: each change keeps the banks, the shot in flight, the deferral, the counts and the rest in
LOADING. -/

namespace Sys2Proof.Machine

/-- No campaign runs in LOADING (R165, R169). -/
def Part.restsInLoading (p : Part) : Prop := p.partState = .loading → ∀ k : Fin 4, p.runs[k].state = .idle

theorem Part.countsAgree_iff (p : Part) :
    p.countsAgree ↔ p.banksAgree ∧ p.shotAgrees ∧ p.deferralFits ∧ p.countsFit ∧ p.restsInLoading := by
  unfold Part.countsAgree Part.countsFit Part.restsInLoading
  tauto

theorem Part.atRest_idle {p : Part} (h : p.atRest = true) (k : Fin 4) : p.runs[k].state = .idle := by
  unfold Part.atRest at h
  rw [Bool.and_eq_true, List.all_eq_true] at h
  simpa using h.1 p.runs[k] (by simp)

/-! ### Loads -/

theorem putRun_outside {α : Type} {n : Nat} (xs : List α) (v : Vector α n) (start : Nat) (i : Fin n)
    (h : i.val < start ∨ start + xs.length ≤ i.val) : (putRun v start xs)[i] = v[i] := by
  induction xs generalizing v start with
  | nil => rfl
  | cons x xs ih =>
    rw [List.length_cons] at h
    rw [putRun, ih _ _ (by omega)]
    simp only [Fin.getElem_fin, Vector.getElem_setIfInBounds]
    rw [if_neg (by omega)]

theorem Part.written_campTable {p : Part} {t : TableId} (ht : t ≠ .camp) (start : Nat) (es : List (List Byte)) :
    (p.written t start es).campTable = p.campTable := by
  cases t with
  | camp => exact absurd rfl ht
  | gate | bins => simp only [Part.written, Part.writeEntries, Part.gateLoaded_eq]
  | head | corr | thresh | cadence | arb | finder | tracker => rfl

/-- A load of run settings meets its campaigns at rest, so every count stands (R22). -/
theorem Part.countsFit.written {p : Part} (h : p.countsFit) (hrest : p.restsInLoading) {t : TableId} {start : Nat}
    {es : List (List Byte)} (hok : ∀ e ∈ es, entryOk t e = true) (hmay : p.loadMayWrite t start es.length) :
    (p.written t start es).countsFit := by
  obtain ⟨hk, hfull⟩ := h
  have hshots : ∀ k : Fin 4, 1 ≤ (p.written t start es).campTable[k].shots ∧
      (p.runs[k].state = .idle ∨ (p.written t start es).campTable[k] = p.campTable[k]) := by
    by_cases ht : t = .camp
    · subst ht
      refine fun k => ⟨?_, ?_⟩
      · exact putRun_forall (P := fun e : CampEntry => 1 ≤ e.shots) start (fun k => (hk k).1)
          (forall_mem_map_of_entryOk (P := fun e : CampEntry => 1 ≤ e.shots) (fun _ he => (campOf_inRange he).1) hok) k
      · rcases hmay rfl with hload | hidle
        · exact .inl (hrest hload k)
        · by_cases hin : start ≤ k.val ∧ k.val < start + es.length
          · exact .inl (hidle k hin.1 hin.2)
          · refine .inr (putRun_outside _ _ _ k ?_)
            rw [List.length_map]
            omega
    · rw [Part.written_campTable ht]
      exact fun k => ⟨(hk k).1, .inr rfl⟩
  have hframe : (p.written t start es).runs = p.runs ∧ (p.written t start es).banks = p.banks := by
    rw [Part.written_frame]
    exact ⟨rfl, rfl⟩
  obtain ⟨hr, hb⟩ := hframe
  refine ⟨fun k => ⟨(hshots k).1, ?_⟩, fun b => by rw [hb]; exact hfull b⟩
  rcases (hshots k).2 with hidle | htable
  · have hcounts := (hk k).2
    rw [Part.runCounts_idle hidle] at hcounts
    rwa [Part.runCounts_idle (by rw [hr]; exact hidle), hr]
  · exact Part.runCounts_of_same (hk k).2 (by rw [hr]) (by rw [hr]) (by rw [htable]) fun odd => by rw [hb]

/-! ### An accepted record -/

/-- The bank of an accepted record has its campaign over-count by the record added (R68). -/
theorem Part.countsAgree.over {p : Part} (h : p.countsAgree) {s : Shot} (hs : p.shot = some s) (ha : s.abandoned = false)
    (r : Record) : ∃ odd, ((p.removeShot.charged (some r.energy)).accumulate s r).CountsOver s.campaign odd := by
  obtain ⟨hbanks, hshot, -, ⟨hk, hfull⟩, -⟩ := (Part.countsAgree_iff p).mp h
  have htarget := hshot.2.2.2.1
  unfold Part.shotTargetsFilling at htarget
  rw [hs] at htarget
  have hfill := htarget.resolve_left (by rw [ha]; decide)
  unfold Part.fillingBank at hfill
  split at hfill
  · next odd hstate =>
    have hb : bankOf s.campaign odd = s.target := Option.some.inj hfill
    have hacc : ∀ c : Fin 8, ((p.removeShot.charged (some r.energy)).accumulate s r).banks[c] =
        if c = s.target then p.banks[s.target].add p.gates r s.kind p.ticks else p.banks[c] := fun c => by
      rw [Part.accumulate_banks, vector_set_get]
      rfl
    have hsame : ∀ b, bankOf s.campaign odd = b → p.banks[b] = p.banks[bankOf s.campaign odd] := by rintro _ rfl; rfl
    have hcounts := (hk s.campaign).2
    rw [Part.runCounts_active hstate] at hcounts
    refine ⟨odd, hstate, fun j => (hk j).1, fun j hj => ?_, fun c => ?_, hcounts.1, ?_, ?_⟩
    · refine Part.runCounts_of_same (hk j).2 rfl rfl rfl fun o => ?_
      rw [hacc, if_neg (hb ▸ bankOf_ne_of_ne o odd hj)]
    · rw [hacc]
      split
      · next hc =>
        refine Bank.closedFull_of_open ?_ ?_ <;>
          rw [Bank.add_state, hsame _ hb, (hbanks.1 s.campaign odd).mpr hstate] <;> decide
      · exact hfull c
    · rw [hacc, if_pos hb, Bank.add_accepted, hsame _ hb, ← Nat.add_assoc]
      exact congrArg (· + 1) hcounts.2
    · rw [hacc, if_pos hb, Bank.add_accepted]
      exact Nat.le_add_left _ _
  · exact nomatch hfill

theorem Part.countsAgree.accepted {p : Part} (h : p.countsAgree) {s : Shot} (hs : p.shot = some s) (ha : s.abandoned = false)
    (r : Record) : (p.accepted s r).countsAgree := by
  obtain ⟨odd, hover⟩ := h.over hs ha r
  obtain ⟨hbanks, hshot, hdefer, -, hrest⟩ := (Part.countsAgree_iff p).mp h
  have hfit : ((p.removeShot.charged (some r.energy)).accumulate s r).banksAgree :=
    Part.banksAgree.accumulate (p := p.removeShot.charged (some r.energy)) hbanks s r
  have hcounts : (p.accepted s r).countsFit := hover.countedDown hfit.match
  rw [Part.countsAgree_iff]
  refine ⟨hbanks.accepted s r, ?_, ?_, hcounts, ?_⟩
  · exact Part.shotAgrees_ended hshot (by rw [Part.accepted_frame]) (by rw [Part.accepted_frame]) (by rw [Part.accepted_frame])
      (by rw [Part.accepted_frame]) (by rw [Part.accepted_frame])
  · rw [Part.accepted_frame]
    exact hdefer
  · intro hload
    rw [Part.accepted_frame] at hload
    have hidle := hrest hload s.campaign
    exact nomatch hidle.symm.trans hover.state

/-! ### The other changes -/

theorem Part.countsFit.rejected {p : Part} (h : p.countsFit) (s : Shot) (reason : ShotReason) (tag : Option Byte)
    (energy : Option Nat) : (p.rejected s reason tag energy).countsFit := by
  refine Part.countsFit_of_same h (by rw [Part.rejected_frame]) (fun k => by rw [Part.rejected_frame]; exact ⟨rfl, rfl⟩)
    fun b => ⟨p.rejected_banks_state s reason tag energy b, ?_⟩
  rw [Part.rejected_frame]
  dsimp only
  split
  · rfl
  · rw [Part.countRejected, Part.setBank, vector_set_get]
    split
    · next hb => rw [hb]
    · rfl

theorem Part.countsAgree.rejected {p : Part} (h : p.countsAgree) (s : Shot) (reason : ShotReason) (tag : Option Byte)
    (energy : Option Nat) : (p.rejected s reason tag energy).countsAgree := by
  obtain ⟨hbanks, hshot, hdefer, hcounts, hrest⟩ := (Part.countsAgree_iff p).mp h
  rw [Part.countsAgree_iff]
  refine ⟨hbanks.rejected _ _ _ _, ?_, ?_, hcounts.rejected _ _ _ _, ?_⟩
  · exact Part.shotAgrees_ended hshot (by rw [Part.rejected_frame]) (by rw [Part.rejected_frame]) (by rw [Part.rejected_frame])
      (by rw [Part.rejected_frame]) (by rw [Part.rejected_frame])
  · rw [Part.rejected_frame]
    exact hdefer
  · rw [Part.rejected_frame]
    exact hrest

theorem Part.countsAgree.loseLock {p : Part} (h : p.countsAgree) :
    (((p.setLock (.unlocked 0)).setRx .off).shotLost .lost).countsAgree := by
  obtain ⟨hbanks, hshot, hdefer, hcounts, hrest⟩ := (Part.countsAgree_iff p).mp h
  rw [Part.countsAgree_iff]
  refine ⟨Part.banksAgree.shotLost (p := (p.setLock (.unlocked 0)).setRx .off) hbanks _, hshot.loseLock, ?_, ?_, ?_⟩
  · rw [Part.shotLost_frame]
    exact hdefer
  · unfold Part.shotLost
    split
    · exact Part.countsFit.rejected (p := (p.setLock (.unlocked 0)).setRx .off) hcounts _ _ _ _
    · exact hcounts
  · rw [Part.shotLost_frame]
    exact hrest

theorem Part.restartShot_cases (p : Part) :
    p.restartShot.shot = none ∧ p.restartShot.port.timer = none ∧ p.restartShot.port.lock = p.port.lock ∧
      (p.shot = none ∧ p.restartShot.port.rx = p.port.rx ∧ p.restartShot.pendingCharge = p.pendingCharge ∨
        p.restartShot.port.rx = p.port.rx.unbind ∧ p.restartShot.pendingCharge = none) := by
  unfold Part.restartShot
  split
  · rw [Part.chargeShot_none]
    exact ⟨rfl, rfl, rfl, .inr ⟨rfl, rfl⟩⟩
  · next hs => exact ⟨hs, rfl, rfl, .inl ⟨hs, rfl, rfl⟩⟩

theorem Part.countsAgree.restart {p : Part} (h : p.countsAgree) : p.restartShot.restartMeasuring.restartFlags.countsAgree := by
  obtain ⟨-, hshot, hdefer, hcounts, -⟩ := (Part.countsAgree_iff p).mp h
  have hidle : ∀ k : Fin 4, p.restartShot.restartMeasuring.restartFlags.runs[k].state = .idle ∧
      p.restartShot.restartMeasuring.restartFlags.runs[k].remaining = 0 := fun k => by
    fin_cases k <;> exact ⟨rfl, rfl⟩
  obtain ⟨hnone, htimer, hlock, hrx⟩ := p.restartShot_cases
  rw [Part.countsAgree_iff]
  refine ⟨p.restart_banksAgree, ?_, ?_, ⟨fun k => ⟨?_, ?_⟩, fun b => ?_⟩, fun _ k => (hidle k).1⟩
  · rcases hrx with ⟨hs, hrx, hcharge⟩ | ⟨hrx, hcharge⟩
    · refine Part.shotAgrees_none hnone htimer (hcharge.trans (hshot.idle hs).2) ?_ ?_
      · exact Part.receiverFits_of_same (p := p) hshot.2.2.2.2.1 hrx hlock (congrArg Option.isSome (hnone.trans hs.symm))
      · rw [show p.restartShot.restartMeasuring.restartFlags.port.lock = p.port.lock from hlock]
        exact hshot.2.2.2.2.2
    · exact Part.shotAgrees_ended hshot hnone htimer hlock hrx hcharge
  · show Part.deferralFits { p.restartShot with link := { p.restartShot.link with reports := [] } }
    rw [Part.restartShot_frame]
    exact hdefer
  · show 1 ≤ p.restartShot.campTable[k].shots
    rw [Part.restartShot_frame]
    exact (hcounts.1 k).1
  · rw [Part.runCounts_idle (hidle k).1]
    exact (hidle k).2
  · refine Bank.closedFull_of_open ?_ ?_ <;>
      simp [Part.restartFlags, Part.restartMeasuring, Bank.cleared]


theorem Part.countsAgree.openOrWait {p : Part} (h : p.countsAgree) {k : Fin 4} (hidle : p.runs[k].state = .idle)
    (hready : p.partState = .ready) : (p.openOrWait k).countsAgree := by
  obtain ⟨hbanks, hshot, hdefer, hcounts, -⟩ := (Part.countsAgree_iff p).mp h
  rw [Part.countsAgree_iff]
  refine ⟨hbanks.openOrWait k fun odd => by rw [hidle]; exact nofun, ?_, ?_, hcounts.openOrWait k, fun hload => ?_⟩
  · have hframe := p.openOrWait_frame k
    refine Part.shotAgrees_of_same hshot (by rw [hframe]) (by rw [hframe]) (by rw [hframe]) (by rw [hframe]) (by rw [hframe]) ?_
    intro j odd hj
    have hne : j ≠ k := fun he => by rw [he, hidle] at hj; exact nomatch hj
    rcases p.openOrWait_cases k with ⟨o, -, -, he⟩ | ⟨-, he⟩ <;> rw [he] <;> dsimp only <;> rw [vector_set_get_ne _ _ hne] <;> exact hj
  · rw [Part.openOrWait_frame]
    exact hdefer
  · rw [Part.openOrWait_frame] at hload
    exact nomatch hready.symm.trans hload

theorem Part.stopCampaign_runs (p : Part) (k j : Fin 4) :
    (p.stopCampaign k).runs[j].state = if j = k then .idle else p.runs[j].state := by
  have habandon : (p.abandonShotOf k).runs = p.runs := by
    unfold Part.abandonShotOf
    split
    · split <;> rfl
    · rfl
  unfold Part.stopCampaign Part.setRun Part.setBank
  dsimp only
  split
  · next hk =>
    rw [habandon]
    split
    · next hj => rw [hj, hk]
    · rfl
  · rw [vector_set_get, habandon]
    split <;> rfl
  · rw [vector_set_get, habandon]
    split <;> rfl

theorem Part.countsAgree.stopCampaign {p : Part} (h : p.countsAgree) (k : Fin 4) : (p.stopCampaign k).countsAgree := by
  obtain ⟨hbanks, hshot, hdefer, hcounts, hrest⟩ := (Part.countsAgree_iff p).mp h
  rw [Part.countsAgree_iff]
  refine ⟨Part.Core.banksAgree hbanks (.stop k), hshot.stopCampaign k, ?_, hcounts.stopCampaign k, fun hload j => ?_⟩
  · rw [Part.stopCampaign_frame]
    exact hdefer
  · rw [Part.stopCampaign_runs]
    split
    · rfl
    · rw [Part.stopCampaign_frame] at hload
      exact hrest hload j

theorem Part.countsAgree.written {p : Part} (h : p.countsAgree) {t : TableId} {start : Nat} {es : List (List Byte)}
    (hok : ∀ e ∈ es, entryOk t e = true) (hmay : p.loadMayWrite t start es.length) : (p.written t start es).countsAgree := by
  obtain ⟨hbanks, hshot, hdefer, hcounts, hrest⟩ := (Part.countsAgree_iff p).mp h
  rw [Part.countsAgree_iff]
  refine ⟨?_, ?_, ?_, hcounts.written hrest hok hmay, ?_⟩ <;> rw [Part.written_frame]
  · exact hbanks
  · exact hshot
  · exact hdefer
  · exact hrest

/-- A held flag is no count. -/
theorem Part.countsAgree.setHeld {p : Part} (h : p.countsAgree) (k : Fin 4) (b : Bool) :
    (p.setRun k { p.runs[k] with held := b }).countsAgree := by
  have hruns : ∀ j : Fin 4, (p.setRun k { p.runs[k] with held := b }).runs[j].state = p.runs[j].state ∧
      (p.setRun k { p.runs[k] with held := b }).runs[j].remaining = p.runs[j].remaining := fun j => by
    rw [show (p.setRun k { p.runs[k] with held := b }).runs = p.runs.set k _ from rfl, vector_set_get]
    split
    · next hj => rw [hj]; exact ⟨rfl, rfl⟩
    · exact ⟨rfl, rfl⟩
  obtain ⟨hbanks, hshot, hdefer, hcounts, hrest⟩ := (Part.countsAgree_iff p).mp h
  rw [Part.countsAgree_iff]
  exact ⟨hbanks.setHeld k b, Part.shotAgrees_of_same hshot rfl rfl rfl rfl rfl fun j odd hj => (hruns j).1.trans hj, hdefer,
    Part.countsFit_of_same hcounts rfl hruns fun _ => ⟨rfl, rfl⟩, fun hload j => (hruns j).1.trans (hrest hload j)⟩

theorem Part.countsAgree.endAbandoned {p : Part} (h : p.countsAgree) (energy : Option Nat) (e : ShotEnd) :
    ((p.removeShot.charged energy).setLastEnd e).countsAgree := by
  obtain ⟨hbanks, hshot, hdefer, hcounts, hrest⟩ := (Part.countsAgree_iff p).mp h
  rw [Part.countsAgree_iff]
  exact ⟨hbanks, Part.shotAgrees_ended hshot rfl rfl rfl rfl rfl, hdefer, hcounts, hrest⟩

/-- Every change behind the outbound side keeps counts, shots and banks in agreement. -/
theorem Part.Core.countsAgree {p q : Part} (h : p.countsAgree) (hc : p.Core q) : q.countsAgree := by
  obtain ⟨hbanks, hshot, hdefer, hcounts, hrest⟩ := (Part.countsAgree_iff p).mp h
  cases hc with
  | setLock l hl hr =>
    obtain ⟨h1, h2, h3, h4, h5, -⟩ := hshot
    have hfits : (p.setLock l).receiverFits := by
      unfold Part.receiverFits at h5 ⊢
      rw [show (p.setLock l).port.isLocked = p.port.isLocked from hl]
      exact h5
    exact (Part.countsAgree_iff _).mpr
      ⟨hbanks, ⟨h1, h2, fun hf => h3 (hl.symm.trans hf), h4, hfits, hr⟩, hdefer, hcounts, hrest⟩
  | gainLock _ => exact (Part.countsAgree_iff _).mpr ⟨hbanks, hshot.gainLock, hdefer, hcounts, hrest⟩
  | setRx rx hrx =>
    obtain ⟨h1, h2, h3, h4, h5, h6⟩ := hshot
    exact (Part.countsAgree_iff _).mpr ⟨hbanks, ⟨h1, h2, h3, h4, hrx h5, h6⟩, hdefer, hcounts, hrest⟩
  | loseLock => exact h.loseLock
  | reject s _ _ _ _ => exact h.rejected _ _ _ _
  | endAbandoned s _ energy e => exact h.endAbandoned energy e
  | accept s hs ha r => exact h.accepted hs ha r
  | restart => exact h.restart
  | openOrWait k hidle hready => exact h.openOrWait hidle hready
  | stop k => exact h.stopCampaign k
  | setHeld k b => exact h.setHeld k b
  | load t start es hok _ hmay => exact h.written hok hmay
  | boot b hb =>
    refine (Part.countsAgree_iff _).mpr ⟨hbanks, hshot, hdefer, hcounts, fun hload => ?_⟩
    rcases hb with rfl | hload' | hrest'
    · exact nomatch hload
    · exact hrest hload'
    · exact Part.atRest_idle hrest'
  | _ => exact h

theorem Part.countsAgree.periodEnd {p : Part} (h : p.countsAgree) : p.periodEnd.countsAgree := by
  rcases p.periodEnd_cases with he | he | ⟨-, hl | ⟨k, b, hs, helig, hfill, he⟩⟩
  · rwa [he]
  · rw [he]; exact h
  · exact hl.keeps (P := Part.countsAgree) fun _ => h
  · obtain ⟨hbanks, hshot, hdefer, hcounts, hrest⟩ := (Part.countsAgree_iff p).mp h
    have hlock : p.port.isLocked = true := by
      unfold Part.eligible at helig
      simp only [Bool.and_eq_true] at helig
      exact helig.1.2
    have hbank : ∀ c : Fin 8, (p.ticked.grant k b).banks[c].state = p.banks[c].state ∧
        (p.ticked.grant k b).banks[c].accepted = p.banks[c].accepted := fun c => by
      rw [show (p.ticked.grant k b).banks = p.banks.set b { p.banks[b] with fired := bump16 p.banks[b].fired } from rfl,
        vector_set_get]
      split
      · next hc => rw [hc]; exact ⟨rfl, rfl⟩
      · exact ⟨rfl, rfl⟩
    rw [he, Part.countsAgree_iff]
    exact ⟨Part.banksAgree_of_same hbanks (fun _ => rfl) (fun c => (hbank c).1) rfl rfl,
      Part.shotAgrees.grant (p := p.ticked) hshot hs hlock hfill, hdefer,
      Part.countsFit_of_same hcounts rfl (fun _ => ⟨rfl, rfl⟩) hbank, hrest⟩

/-! ### Profile complete -/

theorem Part.deferredDone_campTable {p : Part} (h : p.deferralFits) : p.deferredDone.campTable = p.campTable := by
  unfold Part.deferredDone Part.deferralFits at *
  split
  · next c t hh =>
    rw [hh] at h
    rw [Part.written_campTable (by rintro rfl; exact nomatch h)]
    rfl
  · rfl
  · rfl

theorem Part.deferredDone_deferralFits {p : Part} (h : p.deferralFits) : p.deferredDone.deferralFits := by
  unfold Part.deferredDone
  split
  · rw [Part.written_frame]; trivial
  · trivial
  · exact h

theorem Part.freeBank_keepsActive {p : Part} {b : Fin 8} (j : Fin 4) (odd : Bool) (hj : p.runs[j].state = .active odd) :
    (p.freeBank b).runs[j].state = .active odd := by
  obtain ⟨k, o, rfl⟩ := exists_bankOf b
  rcases p.freeBank_cases k o with ⟨hw, he⟩ | ⟨hw, he⟩ <;> rw [he] <;> dsimp only <;> rw [vector_set_get] <;> split
  · next hk => rw [← hj, hk]
  · exact hj
  · next hk => rw [hk, hw] at hj; exact nomatch hj
  · exact hj

theorem Part.freeBank_keepsIdle {p : Part} {b : Fin 8} (j : Fin 4) (hj : p.runs[j].state = .idle) :
    (p.freeBank b).runs[j].state = .idle := by
  obtain ⟨k, o, rfl⟩ := exists_bankOf b
  rcases p.freeBank_cases k o with ⟨hw, he⟩ | ⟨hw, he⟩ <;> rw [he] <;> dsimp only <;> rw [vector_set_get] <;> split
  · next hk => rw [← hj, hk]
  · exact hj
  · next hk => rw [hk, hw] at hj; exact nomatch hj
  · exact hj

/-- Behind the freed bank: the deferred command and the IDLE engine (R77). -/
theorem Part.countsAgree.complete {p : Part} (h : p.countsAgree) {x : InHand} (hx : p.engine.inHand = some x) :
    ((p.freeBank x.bank).deferredDone).nextBank.countsAgree := by
  obtain ⟨hbanks, hshot, hdefer, hcounts, hrest⟩ := (Part.countsAgree_iff p).mp h
  obtain ⟨hr, hb, hq, -, hs, hp, hc, hboot⟩ := (p.freeBank x.bank).deferredDone_frame
  have hfree := p.freeBank_frame x.bank
  have hdefer' : (p.freeBank x.bank).deferralFits := by rw [hfree]; exact hdefer
  have htable := Part.deferredDone_campTable hdefer'
  have hnext := Part.beginNext_frame { (p.freeBank x.bank).deferredDone with
    engine := { (p.freeBank x.bank).deferredDone.engine with inHand := none } }
  have hmatch : Part.banksMatch { (p.freeBank x.bank).deferredDone with
      engine := { (p.freeBank x.bank).deferredDone.engine with inHand := none } } :=
    Part.banksMatch_of_same (hbanks.match.freeBank hx) (fun _ => by rw [hr]) (fun _ => by rw [hb])
      (hq.trans (by rw [hfree])) rfl
  have hfit : Part.countsFit { (p.freeBank x.bank).deferredDone with
      engine := { (p.freeBank x.bank).deferredDone.engine with inHand := none } } :=
    Part.countsFit_of_same (hcounts.freeBank hbanks.match hx) htable (fun _ => by rw [hr]; exact ⟨rfl, rfl⟩)
      (fun _ => by rw [hb]; exact ⟨rfl, rfl⟩)
  rw [Part.countsAgree_iff]
  refine ⟨hmatch.beginNext, ?_, ?_, hfit.beginNext hmatch, ?_⟩ <;> unfold Part.nextBank <;> rw [hnext]
  · refine Part.shotAgrees_of_same hshot (hs.trans (by rw [hfree])) (congrArg Port.timer (hp.trans (by rw [hfree])))
      (congrArg Port.lock (hp.trans (by rw [hfree]))) (congrArg Port.rx (hp.trans (by rw [hfree]))) (hc.trans (by rw [hfree])) ?_
    intro j odd hj
    dsimp only
    rw [hr]
    exact Part.freeBank_keepsActive j odd hj
  · exact Part.deferredDone_deferralFits hdefer'
  · intro hload j
    dsimp only
    rw [hr]
    refine Part.freeBank_keepsIdle j (hrest ?_ j)
    unfold Part.partState at hload ⊢
    dsimp only at hload
    rw [hboot, hfree] at hload
    exact hload

theorem Part.atReset_countsAgree (straps : BitVec 2) (head lock : Bool) (st : Store) (n : Nat) :
    (Part.atReset straps head lock st n).countsAgree := by
  have hruns : ∀ k : Fin 4, (Part.atReset straps head lock st n).runs[k] = Run.reset := fun k => by simp [Part.atReset]
  rw [Part.countsAgree_iff]
  refine ⟨Part.atReset_banksAgree straps head lock st n,
    Part.shotAgrees_none rfl rfl rfl (show _ = _ from rfl) (show 0 < 16 by decide), trivial,
    ⟨fun k => ⟨?_, ?_⟩, fun b => ?_⟩, fun _ k => by rw [hruns]; rfl⟩
  · simp [Part.atReset, CampEntry.reset]
  · rw [Part.runCounts_idle (by rw [hruns]; rfl), hruns]
    rfl
  · refine Bank.closedFull_of_open ?_ ?_ <;> simp [Part.atReset, Bank.cleared]

/-- Settles O47: each change keeps the banks, the shot, the deferral, the counts and the rest in LOADING together. -/
theorem countsAgreeKept : Obligations.CountsAgreeKept := by
  intro s t hs h
  refine step_keeps (P := Part.countsAgree) (fun _ _ h => h) (fun _ _ _ _ _ => Part.atReset_countsAgree _ _ _ _ _)
    (fun _ h => h.periodEnd) (fun _ _ h hc => hc.countsAgree h) (fun p held hheld hp => ?_) (fun _ _ h => h)
    (fun _ _ hx h => h.complete hx) hs h
  obtain ⟨hbanks, hshot, -, hcounts, hrest⟩ := (Part.countsAgree_iff p).mp hp
  refine (Part.countsAgree_iff _).mpr ⟨hbanks, hshot, ?_, hcounts, hrest⟩
  cases held with
  | none => trivial
  | some x => cases x with
    | deferredLoad c t => exact (hheld _ rfl).1
    | deferredClear | storeRead | storeWrite | storeErase => trivial

end Sys2Proof.Machine

/-! The station link through every step: its capacities (R92, R132, R144, R145, R147, R152, R153), no command waiting at a free
unit, and one reply for each command, in order (R148, R154). -/

namespace Sys2Proof.Machine

/-! ### Replies out -/

/-- A reply placed stands behind the replies out (R148). -/
theorem Part.placeReply_repliesOut (p : Part) (r : Reply) :
    (p.placeReply r).link.repliesOut = p.link.repliesOut ++ [(r.tag, r.kind)] := by
  unfold Part.placeReply
  rw [Part.kick_repliesOut]
  simp [Link.repliesOut, List.append_assoc]

/-- Placing a reply leaves the Command Unit and its queue alone. -/
theorem Part.placeReply_keeps_unit (p : Part) (r : Reply) :
    (p.placeReply r).link.commands = p.link.commands ∧ (p.placeReply r).link.held = p.link.held := by
  obtain ⟨q, hq⟩ := p.placeReply_core r
  rw [hq]
  exact ⟨rfl, rfl⟩

/-- One command taken by a free unit: answered behind the replies out, or held and not yet answered (R145, R148). -/
def Part.takesOne (p : Part) (c : Command) (t : Part) : Prop :=
  t.link.commands = p.link.commands ∧
    ((t.link.held = none ∧ t.link.repliesOut = p.link.repliesOut ++ [(c.tag, c.kind)]) ∨
      (t.link.held ≠ none ∧ t.link.repliesOut = p.link.repliesOut))

theorem Part.Taken.takesOne {p t : Part} {c : Command} (h : p.Taken c t) (hheld : p.link.held = none) : p.takesOne c t := by
  have hanswer : ∀ (q : Part) code data, p.BecomesQuietly q → p.takesOne c (q.answer c code data) := fun q code data hq => by
    obtain ⟨hcommands, hheld', -, hout⟩ := hq.keeps_link
    obtain ⟨h1, h2⟩ := q.placeReply_keeps_unit { tag := c.tag, kind := c.kind, code := code, data := data }
    refine ⟨h1.trans hcommands, .inl ⟨(h2.trans hheld').trans hheld, ?_⟩⟩
    unfold Part.answer
    rw [Part.placeReply_repliesOut, hout]
  cases h with
  | answered hq code data => exact hanswer _ code data hq
  | reloading _ => exact hanswer p .ok [] .refl
  | held x _ => exact ⟨rfl, .inr ⟨nofun, rfl⟩⟩

theorem Part.perform_takesOne {p : Part} (c : Command) (hheld : p.link.held = none) : p.takesOne c (p.perform c) :=
  (p.perform_taken c).takesOne hheld

/-! ### No command waits at a free unit -/

/-- The unit leaves a command in its queue only while it may not take one (R145). -/
theorem Part.drain_settled (n : Nat) (p : Part) (hn : p.link.commands.length ≤ n) (hfree : (p.drain n).link.unitFree = true) :
    (p.drain n).link.commands = [] := by
  induction n generalizing p with
  | zero => exact List.length_eq_zero_iff.mp (Nat.le_zero.mp hn)
  | succ n ih =>
    rw [Part.drain] at hfree ⊢
    split at hfree
    · next hc => exact hc
    · next c rest hc =>
      split at hfree
      · next hunit =>
        rw [if_pos hunit]
        refine ih _ ?_ hfree
        rw [(Part.perform_takesOne (p := { p with link := { p.link with commands := rest } }) c
          (p.link.unitFree_iff.mp hunit).1).1]
        rw [hc] at hn
        exact Nat.le_of_succ_le_succ hn
      · next hunit => exact absurd hfree hunit

theorem Part.takeCommands_settled (p : Part) (h : p.takeCommands.link.unitFree = true) : p.takeCommands.link.commands = [] :=
  p.drain_settled _ (Nat.le_refl _) h

/-! ### The capacities -/

/-- The capacities of the link, without the waiting commands. -/
def Part.linkHolds (p : Part) : Prop :=
  p.link.commands.length ≤ 8 ∧ p.link.replies.length ≤ 4 ∧ (p.link.held.isSome = true → p.link.replies.length < 4) ∧
    p.sourcesFit

theorem Part.linkFits_iff (p : Part) :
    p.linkFits ↔ p.linkHolds ∧ (p.link.unitFree = true → p.link.commands = []) := by
  unfold Part.linkFits Part.linkHolds Part.sourcesFit Part.slotFits
  tauto

/-- The sources agree with the slot and the wire as before when they are as before, or emptied. -/
theorem Part.Core.sourcesFit {p q : Part} (hc : p.Core q) (h : p.sourcesFit) : q.sourcesFit := by
  cases hc with
  | loseLock => rw [Part.shotLost_frame]; exact h
  | reject => rw [Part.rejected_frame]; exact h
  | accept => rw [Part.accepted_frame]; exact h
  | openOrWait => rw [Part.openOrWait_frame]; exact h
  | stop => rw [Part.stopCampaign_frame]; exact h
  | load => rw [Part.written_frame]; exact h
  | restart =>
    obtain ⟨⟨-, hslot⟩, hidle⟩ := h
    have hlink := p.restartShot_link
    have hengine : p.restartShot.engine = p.engine := by rw [Part.restartShot_frame]
    refine ⟨⟨Nat.zero_le _, ?_⟩, fun hs => ?_⟩
    · show p.restartShot.engine.slot.restarted = .sending ↔ p.restartShot.link.sendsProfile = true
      rw [hengine, hlink, ← hslot]
      cases p.engine.slot <;> simp [Slot.restarted]
    · obtain ⟨hreplies, -, -, hempty⟩ := hidle (by rw [← hlink]; exact hs)
      refine ⟨?_, rfl, rfl, ?_⟩
      · show p.restartShot.link.replies = []
        rw [hlink]
        exact hreplies
      · show p.restartShot.engine.slot.restarted = .empty
        rw [hengine, hempty]
        rfl
  | _ => exact h

/-- A quiet change keeps the capacities and, with no source waiting at an IDLE scheduler, the Command Unit's view of the link. -/
theorem Part.Quiet.linkHolds {p q : Part} (hq : p.Quiet q) (h : p.linkHolds) :
    q.linkHolds ∧ q.link.commands = p.link.commands ∧ q.link.held = p.link.held ∧ q.link.replies = p.link.replies := by
  obtain ⟨hcommands, hreplies, hheld, hsources⟩ := h
  have hlink : q.link.commands = p.link.commands ∧ q.link.held = p.link.held ∧ q.link.replies = p.link.replies ∧ q.sourcesFit := by
    cases hq with
    | core hc =>
      obtain ⟨h1, h2, h3, -⟩ := hc.keeps_link
      exact ⟨h1, h2, h3, hc.sourcesFit hsources⟩
    | like hl =>
      obtain ⟨h1, h2, -, -⟩ := (Part.Quiet.like hl).keeps_link
      obtain ⟨hs, h3⟩ := hl.sends.fits hsources
      exact ⟨h1, h2, h3, hs⟩
  obtain ⟨h1, h2, h3, h4⟩ := hlink
  exact ⟨⟨by rwa [h1], by rwa [h3], by rwa [h2, h3], h4⟩, h1, h2, h3⟩

theorem Part.placeReply_linkHolds {p : Part} (r : Reply) (hcommands : p.link.commands.length ≤ 8) (hheld : p.link.held = none)
    (hroom : p.link.replies.length < 4) (hslot : p.slotFits) : (p.placeReply r).linkHolds := by
  obtain ⟨h1, h2⟩ := p.placeReply_keeps_unit r
  refine ⟨by rwa [h1], ?_, ?_, Part.kick_fits hslot⟩
  on_goal 2 => rw [h2, hheld]; exact nofun
  refine Nat.le_trans (Part.kick_replies_length _) ?_
  rw [List.length_append]
  exact hroom

/-- Beginning and freeing a bank leave the link, the flags and the slot alone. -/
theorem Part.nextBank_linkHolds {p : Part} (h : p.linkHolds) : p.nextBank.linkHolds := by
  unfold Part.nextBank
  rw [Part.beginNext_frame]
  exact h

theorem Part.freeBank_linkHolds {p : Part} (b : Fin 8) (h : p.linkHolds) : (p.freeBank b).linkHolds := by
  rw [Part.freeBank_frame]
  exact h

theorem Part.applyDeferred_linkHolds {p : Part} (h : p.linkHolds) : p.applyDeferred.linkHolds := by
  unfold Part.applyDeferred
  obtain ⟨hcommands, hreplies, hheld, hsources⟩ := h
  split
  · next c t hh =>
    have hroom := hheld (by rw [hh]; rfl)
    have hwritten : (p.release.written t (loadStart c) (loadEntries c t)).link = p.release.link ∧
        (p.release.written t (loadStart c) (loadEntries c t)).sourcesFit := by
      rw [Part.written_frame]
      exact ⟨rfl, hsources⟩
    obtain ⟨hlink, hfits⟩ := hwritten
    have hlike := p.release.writeEntries_like t (loadStart c) (loadEntries c t)
    obtain ⟨h1, h2, h3, -⟩ := (Part.Quiet.like hlike).keeps_link
    rw [hlink] at h1 h2 h3
    exact Part.placeReply_linkHolds _ (h1 ▸ hcommands) h2 (Nat.lt_of_le_of_lt h3 hroom) (hlike.sends.fits hfits).1.1
  · next c hh => exact Part.placeReply_linkHolds _ hcommands rfl (hheld (by rw [hh]; rfl)) hsources.1
  · exact ⟨hcommands, hreplies, hheld, hsources⟩

theorem Part.Change.linkHolds {p q : Part} (hc : p.Change q) (h : p.linkHolds) : q.linkHolds := by
  cases hc with
  | quiet hq => exact (hq.linkHolds h).1
  | reply r hroom => exact Part.placeReply_linkHolds r h.1 hroom.1 hroom.2 h.2.2.2.1
  | finish x hx r => exact Part.placeReply_linkHolds r h.1 rfl (h.2.2.1 (by rw [hx]; rfl)) h.2.2.2.1
  | hold x hroom _ =>
    obtain ⟨hcommands, hreplies, -, hsources⟩ := h
    exact ⟨hcommands, hreplies, fun _ => hroom.2, hsources⟩
  | commands cs hcs =>
    obtain ⟨hcommands, hrest⟩ := h
    exact ⟨hcs hcommands, hrest⟩
  | complete x _ => exact Part.nextBank_linkHolds (Part.applyDeferred_linkHolds (Part.freeBank_linkHolds x.bank h))

theorem Part.Becomes.linkHolds {p q : Part} (hb : p.Becomes q) (h : p.linkHolds) : q.linkHolds :=
  hb.relates (R := fun p q => p.linkHolds → q.linkHolds) (fun _ => id) (fun _ _ _ h h' => h' ∘ h)
    (fun _ _ hc => hc.linkHolds) h

theorem Part.Becomes.linkFits_takeCommands {p q : Part} (hb : p.Becomes q) (h : p.linkHolds) : q.takeCommands.linkFits :=
  (Part.linkFits_iff _).mpr ⟨Part.Becomes.linkHolds (hb.trans q.takeCommands_becomes) h, q.takeCommands_settled⟩

theorem Part.BecomesQuietly.linkFits {p q : Part} (hb : p.BecomesQuietly q) (h : p.linkFits) : q.linkFits := by
  rw [Part.linkFits_iff] at h ⊢
  induction hb with
  | refl => exact h
  | tail _ hq ih =>
    obtain ⟨hholds, hwait⟩ := ih
    obtain ⟨hholds', hcommands, hheld, hreplies⟩ := hq.linkHolds hholds
    refine ⟨hholds', fun hfree => ?_⟩
    rw [Link.unitFree_iff, hheld, hreplies, ← Link.unitFree_iff] at hfree
    rw [hcommands]
    exact hwait hfree

theorem Part.Settles.linkFits {p t : Part} (hs : p.Settles t) (h : p.linkFits) : t.linkFits := by
  rcases hs with hq | ⟨q, hq, rfl⟩
  · exact hq.linkFits h
  · exact hq.linkFits_takeCommands ((Part.linkFits_iff p).mp h).1

/-! ### A frame boundary -/

/-- The end of a frame leaves the slot marked exactly while the next frame is a PROFILE frame (R92, R153). -/
theorem Part.frameBoundary_linkHolds {p : Part} {f : OutFrame} (hf : p.link.sending = some f) (h : p.linkHolds) :
    (p.frameBoundary f).linkHolds := by
  obtain ⟨hcommands, hreplies, hheld, ⟨hreports, hslot⟩, -⟩ := h
  obtain ⟨q, hq⟩ := p.frameBoundary_core f
  have hunit : (p.frameBoundary f).link.commands = p.link.commands ∧ (p.frameBoundary f).link.held = p.link.held := by
    rw [hq]
    exact ⟨rfl, rfl⟩
  have hlen : (p.frameBoundary f).link.replies.length ≤ p.link.replies.length := by
    refine Nat.le_trans (Part.kick_replies_length _) (Nat.le_of_eq ?_)
    unfold Part.slotSent
    split <;> rfl
  refine ⟨by rw [hunit.1]; exact hcommands, Nat.le_trans hlen hreplies, fun hh => ?_, Part.kick_fits ⟨?_, ?_⟩⟩
  · rw [hunit.2] at hh
    exact Nat.lt_of_le_of_lt hlen (hheld hh)
  · unfold Part.slotSent
    split <;> exact hreports
  · refine iff_of_false (fun hs => ?_) nofun
    unfold Part.slotSent at hs
    split at hs
    · exact nomatch hs
    · next hk =>
      have := hslot.mp hs
      rw [Link.sendsProfile, hf] at this
      exact hk (of_decide_eq_true this)

theorem Part.endFrame_linkFits {p : Part} (h : p.linkFits) : p.endFrame.linkFits := by
  cases hf : p.link.sending with
  | none => simpa only [Part.endFrame, hf] using h
  | some f =>
    rw [Part.endFrame_eq p hf]
    exact Part.Becomes.linkFits_takeCommands .refl (Part.frameBoundary_linkHolds hf ((Part.linkFits_iff p).mp h).1)

/-! ### The link through every step -/

theorem Part.atReset_linkFits (straps : BitVec 2) (head lock : Bool) (st : Store) (n : Nat) :
    (Part.atReset straps head lock st n).linkFits :=
  ⟨Nat.zero_le _, Nat.zero_le _, Nat.zero_le _, nofun, fun _ => rfl, fun _ => ⟨rfl, rfl, rfl, rfl⟩, iff_of_false nofun nofun⟩

theorem Part.periodEnd_linkFits {p : Part} (h : p.linkFits) : p.periodEnd.linkFits := by
  rcases p.periodEnd_cases with he | he | ⟨-, hl | ⟨k, b, -, -, -, he⟩⟩
  · rwa [he]
  · rw [he]; exact h
  · exact hl.quietly.linkFits (p := p.ticked) h
  · rw [he]; exact h

/-- Settles O50: a quiet row leaves the Command Unit as it is, and every other row ends with the unit taking what it may. -/
theorem linkKept : Obligations.LinkKept := by
  intro s t hs h
  unfold step at h
  split at h
  · cases h
    exact hs
  · next i rest hp =>
    by_cases h1 : i = .periodEnd
    · subst h1; cases h; exact Part.periodEnd_linkFits hs
    · by_cases h2 : i = .endOfFrame
      · subst h2; cases h; exact Part.endFrame_linkFits hs
      · by_cases h3 : ∃ straps head lock, i = .deviceReset straps head lock
        · obtain ⟨straps, head, lock, rfl⟩ := h3
          cases h
          exact Part.atReset_linkFits _ _ _ _ _
        · exact (exec_settles h (fun a b c hi => h3 ⟨a, b, c, hi⟩) h1 h2).linkFits hs

/-! ### One reply for each command -/

/-- The replies out of `p` stand in front of those of `q`. -/
def Part.repliesGrow (p q : Part) : Prop := ∃ more, q.link.repliesOut = p.link.repliesOut ++ more

theorem Part.repliesGrow_of_eq {p q : Part} (h : q.link.repliesOut = p.link.repliesOut) : p.repliesGrow q :=
  ⟨[], by rw [h, List.append_nil]⟩

theorem Part.repliesGrow_trans {p q r : Part} (h : p.repliesGrow q) (h' : q.repliesGrow r) : p.repliesGrow r := by
  obtain ⟨a, ha⟩ := h
  obtain ⟨b, hb⟩ := h'
  exact ⟨a ++ b, by rw [hb, ha, List.append_assoc]⟩

theorem Part.placeReply_repliesGrow {p q : Part} (h : q.link.repliesOut = p.link.repliesOut) (r : Reply) :
    p.repliesGrow (q.placeReply r) :=
  ⟨[(r.tag, r.kind)], by rw [Part.placeReply_repliesOut, h]⟩

theorem Part.applyDeferred_repliesGrow (p : Part) : p.repliesGrow p.applyDeferred := by
  unfold Part.applyDeferred
  split
  · next c t hh =>
    refine Part.placeReply_repliesGrow ?_ _
    have hlike := p.release.writeEntries_like t (loadStart c) (loadEntries c t)
    refine hlike.sends.repliesOut.trans ?_
    rw [Part.written_frame]
    rfl
  · exact Part.placeReply_repliesGrow rfl _
  · exact Part.repliesGrow_of_eq rfl

theorem Part.Change.repliesGrow {p q : Part} (h : p.Change q) : p.repliesGrow q := by
  cases h with
  | quiet hq => exact Part.repliesGrow_of_eq hq.keeps_link.2.2.2
  | reply r _ => exact Part.placeReply_repliesGrow rfl r
  | finish x _ r => exact Part.placeReply_repliesGrow rfl r
  | hold | commands => exact Part.repliesGrow_of_eq rfl
  | complete x _ =>
    obtain ⟨more, hmore⟩ := (p.freeBank x.bank).applyDeferred_repliesGrow
    refine ⟨more, ?_⟩
    unfold Part.nextBank
    rw [Part.beginNext_frame]
    refine Eq.trans hmore ?_
    rw [Part.freeBank_frame]

theorem Part.Becomes.repliesGrow {p q : Part} (h : p.Becomes q) : p.repliesGrow q :=
  h.relates (fun _ => Part.repliesGrow_of_eq rfl) (fun _ _ _ => Part.repliesGrow_trans) fun _ _ hc => hc.repliesGrow

theorem Part.periodEnd_repliesOut (p : Part) : p.periodEnd.link.repliesOut = p.link.repliesOut := by
  rcases p.periodEnd_cases with he | he | ⟨-, hl | ⟨k, b, -, -, -, he⟩⟩
  · rw [he]
  · rw [he]
  · exact hl.sends.repliesOut
  · rw [he]; rfl

/-- A frame boundary completes the frame on the wire and no other (R153). -/
theorem Part.frameBoundary_repliesOut (p : Part) (f : OutFrame) :
    (p.frameBoundary f).link.repliesOut = p.link.replies.map fun r => (r.tag, r.kind) := by
  unfold Part.frameBoundary
  rw [Part.kick_repliesOut]
  unfold Part.slotSent
  split <;> rfl

theorem Link.repliesOut_sending {l : Link} {f : OutFrame} (h : l.sending = some f) :
    l.repliesOut = (if f.kind = replyKind then [(f.tag, f.payload.headD 0)] else []) ++ l.replies.map fun r => (r.tag, r.kind) := by
  unfold Link.repliesOut
  rw [h]

/-- The kinds that R143 reserves for outbound frames. -/
theorem isOutbound_iff (kind : Byte) : isOutbound kind = true ↔ kind = 0x81 ∨ kind = 0x82 ∨ kind = 0x83 ∨ kind = 0x84 := by
  unfold isOutbound
  rw [Bool.or_eq_true, Bool.or_eq_true, Bool.or_eq_true, or_assoc, or_assoc]
  exact or_congr decide_eq_true_iff (or_congr decide_eq_true_iff (or_congr decide_eq_true_iff decide_eq_true_iff))

/-- Settles O55. -/
theorem oneReplyPerCommand : Obligations.OneReplyPerCommand := by
  refine ⟨fun i c s hi hkind hfree => ?_, fun p t c hheld _ ht => ?_, fun i s t hreset hframe h => ?_, fun s t h => ?_⟩
  · refine ⟨_, exec_of_commandOfRow hi s, ?_⟩
    have hin : isOutbound c.kind = false := by rwa [Bool.eq_false_iff, ne_eq, isOutbound_iff]
    have haccept : s.toPart.acceptFrame c = s.toPart.perform c := by
      unfold Part.acceptFrame
      rw [hin, if_neg (by decide), Part.enqueue_free hfree]
    rw [haccept]
    exact (Part.perform_takesOne c ((Part.takesAtOnce_iff _).mp hfree).1).2
  · rw [ht]
    exact (Part.perform_takesOne c hheld).2
  · by_cases hp : i = .periodEnd
    · subst hp; cases h; exact Part.repliesGrow_of_eq s.toPart.periodEnd_repliesOut
    · exact (exec_settles h hreset hp hframe).becomes.repliesGrow
  · cases h
    have hgrow : ∀ f, s.link.sending = some f → (s.toPart.frameBoundary f).repliesGrow s.toPart.endFrame := fun f hf => by
      rw [Part.endFrame_eq _ hf]
      exact (Part.takeCommands_becomes _).repliesGrow
    refine ⟨fun f hf hk => ?_, fun hk => ?_⟩
    · obtain ⟨more, hmore⟩ := hgrow f hf
      refine ⟨more, hmore.trans ?_⟩
      rw [Part.frameBoundary_repliesOut, Link.repliesOut_sending hf, if_pos (show f.kind = replyKind from hk)]
      rfl
    · cases hf : s.link.sending with
      | none => exact ⟨[], by simp only [Part.endFrame, hf, List.append_nil]⟩
      | some f =>
        obtain ⟨more, hmore⟩ := hgrow f hf
        refine ⟨more, hmore.trans ?_⟩
        rw [Part.frameBoundary_repliesOut, Link.repliesOut_sending hf, if_neg (show ¬f.kind = replyKind from hk f hf), List.nil_append]

end Sys2Proof.Machine

/-! The machine and its shared operations (R153, R155, R170): one step, device reset, a reply placed and a flag raised. -/

namespace Sys2Proof.Machine

/-! ### A step -/

/-- A command row answers a next state in which only the part may have changed. -/
theorem exec_next (i : Instr) (s : State) : ∃ p : Part, exec i s = .next { s with toPart := p } := by
  cases i
  case recordTimeout =>
    cases ht : s.port.timer with
    | some limit => exact ⟨s.toPart.loseShot .timeout, by simp only [exec, execRecordTimeout, ht]⟩
    | none => exact ⟨s.toPart, by simp only [exec, execRecordTimeout, ht]⟩
  all_goals exact ⟨_, rfl⟩

/-- Settles O1: a step is exec of the front command, and every row answers a next state. -/
theorem stepRunsFrontCommand : Obligations.StepRunsFrontCommand := by
  refine ⟨fun c rest s hs => ?_, step_nil, exec_next⟩
  simp only [step, hs]

/-! ### Device reset -/

/-- With no write or erase held the store comes through a device reset as it is (R161). -/
theorem Part.storeAfterReset_other {p : Part} (hwrite : ∀ tag addr data, p.link.held ≠ some (.storeWrite tag addr data))
    (herase : ∀ tag addr, p.link.held ≠ some (.storeErase tag addr)) : p.storeAfterReset = p.store := by
  unfold Part.storeAfterReset
  split
  · next h => exact absurd h (hwrite _ _ _)
  · next h => exact absurd h (herase _ _)
  · rfl

/-- A present store whose operation is cut off counts as busy, its bytes as the cut leaves them (R161, log 10). -/
theorem Store.timedOut_program {st : Store} (h0 : st.ident ≠ 0) (h1 : st.ident ≠ 0xFFFFFF) (n : Nat) (t : Transaction) :
    st.timedOut n t .program = { st with busy := true, cells := t.cutCells st.cells n } := by
  rw [Store.timedOut, if_pos ((Store.answers_iff st).mpr ⟨h0, h1⟩)]

/-- Settles O2: atReset writes every reset value; the store is the one storeAfterReset leaves. -/
theorem deviceResetValues : Obligations.DeviceResetValues := by
  intro straps headPresent interlockOpen s
  refine ⟨_, rfl, ?_⟩
  simp only [Part.deviceReset, Part.atReset, Part.partState, Config.bucketMax, resetOrder, CampEntry.reset, Run.reset,
    Bank.cleared, DarkRef.reset, Fin.getElem_fin, Vector.getElem_replicate, and_self, true_and, implies_true]
  refine ⟨Part.storeAfterReset_other, fun h0 h1 => ⟨fun tag addr data hh => ?_, fun tag addr hh => ?_⟩⟩
  · rw [Part.storeAfterReset, hh]
    exact Store.timedOut_program h0 h1 _ _
  · rw [Part.storeAfterReset, hh]
    exact Store.timedOut_program h0 h1 _ _

/-- Settles O3: the part as device reset leaves it meets each invariant, by the lemma of that invariant. -/
theorem resetMeetsInvariants : Obligations.ResetMeetsInvariants := by
  have hcounts : State.reset.toPart.countsAgree := Part.atReset_countsAgree _ _ _ _ _
  refine ⟨hcounts.1, hcounts.2.1, hcounts, List.Perm.refl _, Part.atReset_tablesInRange _ _ _ _ _, ?_,
    Part.atReset_linkFits _ _ _ _ _, Memory.reset_wf, Nat.le_refl _, rfl⟩
  exact ⟨Nat.zero_le _, List.nodup_nil, Nat.le_refl _, by decide, by decide, nofun⟩

/-! ### Pins -/

/-- Settles O12: the interlock acts on the cause set through causeEdge, and closing it permits no less than before. -/
theorem pinEvents : Obligations.PinEvents := by
  intro s
  have hopen : Part.permitted { s.toPart with interlockOpen := true } = false := by simp [Part.permitted]
  have hclose : s.permitted = true → Part.permitted { s.toPart with interlockOpen := false } = true := by
    simp only [Part.permitted_iff]
    exact fun ⟨_, hover, hstop, hhead⟩ => ⟨trivial, hover, hstop, hhead⟩
  refine ⟨rfl, rfl, ?_, fun hp => ?_, fun hp => ?_⟩
  · show Host.Outcome.next { s with toPart := s.toPart.setInterlock false } = _
    rw [Part.setInterlock, Part.causeEdge, if_neg]
    cases hp : s.permitted
    · simp
    · simp [hclose hp]
  · show Host.Outcome.next { s with toPart := s.toPart.setInterlock true } = _
    rw [Part.setInterlock, Part.causeEdge, hopen, hp]
    rfl
  · show Host.Outcome.next { s with toPart := s.toPart.setInterlock true } = _
    rw [Part.setInterlock, Part.causeEdge, hp]
    rfl

/-! ### Standings of a bin -/

/-- Settles O37: both standings compare β, and a clipped bin is above. -/
theorem binStandings : Obligations.BinStandings := by
  intro b htc
  have habove : b.above = true ↔ (b.tc : Int) ≤ b.beta ∨ b.clipped = true := by
    simp only [BinView.above, Bool.or_eq_true, decide_eq_true_eq, or_comm]
  have hbelow : b.below = true ↔ b.beta < ((b.tc / 2 : Nat) : Int) ∧ b.clipped = false := by
    simp only [BinView.below, Bool.and_eq_true, Bool.not_eq_true', decide_eq_true_eq, and_comm]
  refine ⟨habove, hbelow, ?_, fun hone hclip => ?_⟩
  · rw [habove, hbelow]
    rintro ⟨hup | hclip, hdown, hnot⟩
    · omega
    · simp [hnot] at hclip
  · rw [hbelow, hone]
    simp [hclip]

/-! ### Replies and flags -/

theorem Part.raise_noticed {p : Part} {f : Flag} (hclear : p.status.flags.getLsbD f.bit = false)
    (hon : (p.status.global && p.status.enables.getLsbD f.bit) = true) :
    p.raise f = Part.kick { p with status := { p.status with flags := p.status.flags ||| f.mask
                                                             pendingSet := p.status.pendingSet ||| f.mask } } := by
  have hhas : ¬ p.status.has f = true := by simp [Status.has_iff, hclear]
  rw [Part.raise, if_neg hhas, if_pos]
  simpa [Status.noticed_iff] using hon

theorem Part.raise_unnoticed {p : Part} {f : Flag} (hclear : p.status.flags.getLsbD f.bit = false)
    (hoff : (p.status.global && p.status.enables.getLsbD f.bit) = false) :
    p.raise f = { p with status := { p.status with flags := p.status.flags ||| f.mask } } := by
  have hhas : ¬ p.status.has f = true := by simp [Status.has_iff, hclear]
  rw [Part.raise, if_neg hhas, if_neg]
  rw [Status.noticed_iff]
  simpa using hoff

/-- Settles O4: a reply and a notice wait behind the frame being sent, or begin at an IDLE scheduler. -/
theorem repliesAndFlags : Obligations.RepliesAndFlags := by
  refine ⟨fun p c code data => ⟨fun f hf => p.placeReply_sending _ hf, p.placeReply_idle _⟩, fun p f => ⟨fun hset => ?_, ?_, ?_⟩⟩
  · exact p.raise_set f ((p.status.has_iff f).mpr hset)
  · exact Part.raise_unnoticed
  · intro hclear hon
    rw [Part.raise_noticed hclear hon]
    refine ⟨fun g hg => Part.kick_sending _ hg, fun hidle hempty => ?_⟩
    rw [Part.kick_idle _ (by exact hidle)]
    simp only [Part.beginFrame, hempty, ne_eq, Flag.or_mask_ne_zero, not_false_eq_true, if_true]
    rfl

end Sys2Proof.Machine

/-! Firing the laser (R1 to R17): the Emission Monitor at a shot end, the slot tick, the head and the laser commands. -/

namespace Sys2Proof.Machine

/-! ### A command row at a free unit -/

theorem isOutbound_of_command {kind : Byte} {k : CommandKind} (h : commandOfKind kind = some k) : isOutbound kind = false := by
  rw [Bool.eq_false_iff, ne_eq, isOutbound_iff]
  rintro (rfl | rfl | rfl | rfl) <;> cases h

/-- A command row at a free unit, past the first three checks of R146, is carried out by its owner. -/
theorem exec_command {i : Instr} {c : Command} {s : State} (k : CommandKind) (h : s.takesAtOnce = true)
    (hr : s.boot = .ready ∨ takenInLoading k = true) (hi : commandOfRow i = some c) (hk : commandOfKind c.kind = some k)
    (hl : fixedLength k = none ∨ fixedLength k = some c.payload.length) :
    exec i s = .next { s with toPart := s.toPart.carryOut c k } := by
  rw [exec_of_commandOfRow hi]
  exact deliver_carryOut h hk (isOutbound_of_command hk) (hr.imp_left Part.partState_ready) hl

/-! ### The cause set -/

/-- A laser that is not permitted afterwards was blocked if it was permitted before (R7). -/
theorem Part.causeEdge_blocked {now : Part} (before : Part) (h : now.permitted = false) :
    Part.causeEdge before now = if before.permitted then now.raise .laserBlocked else now := by
  simp [Part.causeEdge, h]

theorem Part.causeEdge_unpermitted {before : Part} (now : Part) (h : before.permitted = false) :
    Part.causeEdge before now = now := by
  simp [Part.causeEdge, h]

/-- Only a VERIFIED head selects a row (R15, R5). -/
theorem Part.not_permitted_of_head {p : Part} (h : ∀ c, p.head ≠ .verified c) : p.permitted = false := by
  rw [Bool.eq_false_iff, ne_eq, Part.permitted_iff]
  rintro ⟨-, -, -, c, hc, -⟩
  exact h c hc

/-! ### The end of a shot at the Emission Monitor -/

section
variable {p : Part} {charge : Nat} (h : p.pendingCharge = some charge) (e : Option Nat)
include h

/-- With the latch set, or E not above the charge, only the level and the charge change (R9). -/
theorem Part.chargeShot_level (hlow : p.overEnergy = true ∨ e.getD charge ≤ charge) :
    p.chargeShot e = { p with bucket := min (p.bucket + e.getD charge) 16777215, pendingCharge := none } := by
  rw [Part.chargeShot, h]
  simp only []
  rw [if_neg]
  · rfl
  · rw [Bool.and_eq_true, decide_eq_true_eq, Bool.not_eq_true']
    rintro ⟨hgt, hclear⟩
    rcases hlow with hset | hle
    · simp [hset] at hclear
    · omega

/-- An E above the charge latches OVERENERGY, and a permitted laser becomes blocked (R10, R7). -/
theorem Part.chargeShot_latch {q : Part} (hclear : p.overEnergy = false) (hgt : charge < e.getD charge)
    (hq : q = { p with bucket := min (p.bucket + e.getD charge) 16777215, pendingCharge := none, overEnergy := true }) :
    p.chargeShot e = if p.permitted then (q.raise .overEnergy).raise .laserBlocked else q.raise .overEnergy := by
  have hblocked : (q.raise .overEnergy).permitted = false := by simp [hq, Part.permitted]
  rw [Part.chargeShot, h]
  simp only []
  rw [if_pos (by simp [hclear, hgt]), Part.causeEdge_blocked, hq]
  · rfl
  · rw [← hblocked, hq]; rfl

end

/-- Settles O10: the two cases of a pending charge, E above it with the latch clear or not. -/
theorem shotEndCharge : Obligations.ShotEndCharge := by
  intro p e
  refine ⟨fun h => by rw [Part.chargeShot, h], fun charge h => ?_⟩
  obtain ⟨-, -, -, -, -, -, -, -, -, hruns, harb, hshot, hport, -, hbanks, -, -, -, -, -, -, -, -, -, hstopped, -⟩ :=
    p.chargeShot_keeps e
  have hbucket := p.chargeShot_bucket e
  rw [h] at hbucket
  refine ⟨hbucket, p.chargeShot_pendingCharge e, ?_, hstopped, hruns, hbanks, hshot, hport, harb, fun hlow => ?_,
    fun hclear hgt => ?_⟩
  · by_cases hlow : p.overEnergy = true ∨ e.getD charge ≤ charge
    · rw [Part.chargeShot_level h e hlow]
      show p.overEnergy = true ↔ _
      grind
    · obtain ⟨hclear, hgt⟩ := not_or.mp hlow
      rw [Part.chargeShot_latch h e (by simpa using hclear) (by omega) rfl]
      refine iff_of_true ?_ (.inr (by omega))
      split <;> simp
  · rw [Part.chargeShot_level h e hlow]
  · rw [Part.chargeShot_latch h e hclear hgt rfl]
    split <;> simp [*]

/-! ### Slot ticks -/

theorem Part.ticked_eq {p : Part} {d : Nat} (h : d = p.drainAmount) :
    p.ticked = { p with gen := .running p.cadence.slotPeriod, ticks := (p.ticks + 1) % 4294967296, bucket := p.bucket - d } := by
  rw [h]; rfl

theorem Part.fillingBank_isSome_iff (p : Part) (k : Fin 4) :
    (p.fillingBank k).isSome = true ↔ ∃ odd, p.runs[k].state = .active odd := by
  unfold Part.fillingBank
  cases p.runs[k].state <;> simp

theorem Part.fillingBank_active {p : Part} {k : Fin 4} {odd : Bool} (h : p.runs[k].state = .active odd) :
    p.fillingBank k = some (bankOf k odd) := by
  simp only [Part.fillingBank, h]

theorem Part.eligible_iff (p : Part) (k : Fin 4) :
    p.eligible k = true ↔ (∃ odd, p.runs[k].state = .active odd) ∧ p.runs[k].held = false ∧ p.boot = .ready ∧
      p.port.isLocked = true ∧ (p.campTable[k].settings.kind = .dark ∨ p.litPermit = true) := by
  simp only [Part.eligible, Bool.and_eq_true, Bool.not_eq_true', Bool.or_eq_true, decide_eq_true_eq, and_assoc,
    p.fillingBank_isSome_iff, p.partState_eq_ready_iff]

theorem Part.priority_eq (p : Part) : p.priority = if p.arb.mode = .rotating then p.arb.order else [0, 1, 2, 3] := by
  unfold Part.priority
  cases p.arb.mode <;> rfl

/-- The charge of a lit grant is the E_max of the selected row, which the permit asks for (R8, R9). -/
theorem Part.chargeAtGrant_of_permit {p : Part} (h : p.litPermit = true) :
    some p.chargeAtGrant = p.selectedRow.map HeadRow.eMax := by
  obtain ⟨-, -, -, ⟨c, hc, -⟩, -⟩ := p.litPermit_iff.mp h
  simp only [Part.chargeAtGrant, Part.selectedRow, hc, Option.map_some]

/-- Settles O11: the part after the drain is `ticked`, and arbitrate acts on it by the shot and the first eligible campaign. -/
theorem slotTick : Obligations.SlotTick := by
  intro s
  have hexec : exec .periodEnd s = .next { s with toPart := s.toPart.periodEnd } := rfl
  refine ⟨fun hg => ?_, fun n hg => ?_, fun n q hg hq => ?_⟩
  · rw [hexec, Part.periodEnd, hg]
  · rw [hexec, Part.periodEnd, hg]
  · have htick : q = s.toPart.ticked := by
      rw [hq]
      refine (Part.ticked_eq ?_).symm
      unfold Part.drainAmount Part.selectedRow
      cases s.head <;> rfl
    have hrun : s.toPart.periodEnd = q.arbitrate := by
      rw [Part.periodEnd, hg, htick]; rfl
    refine ⟨fun k => ?_, fun hs => ?_, fun hs hnone => ?_, fun k odd hs hk hodd => ?_⟩
    · rw [q.eligible_iff, htick]; rfl
    · obtain ⟨x, hx⟩ := Option.ne_none_iff_exists'.mp hs
      have hqx : q.shot = some x := by rw [hq]; exact hx
      rw [hexec, hrun, Part.arbitrate, hqx]
    · have hqs : q.shot = none := by rw [hq]; exact hs
      have hfind : q.priority.find? q.eligible = none := by simp [hnone]
      rw [hexec, hrun, Part.arbitrate, hqs]
      simp only [hfind]
    · have hqs : q.shot = none := by rw [hq]; exact hs
      have hfind : q.priority.find? q.eligible = some k := by rw [q.priority_eq, hq]; rw [hq] at hk; exact hk
      have hbank : q.fillingBank k = some (bankOf k odd) := Part.fillingBank_active (by rw [hq]; exact hodd)
      have helig : q.eligible k = true := List.find?_some hfind
      rw [hexec, hrun, Part.arbitrate, hqs]
      simp only [hfind, hbank]
      have hcharge : s.campTable[k].settings.kind = .lit → some q.chargeAtGrant = q.selectedRow.map HeadRow.eMax := by
        intro hlit
        have hkind : q.campTable[k].settings.kind = .lit := by rw [hq]; exact hlit
        obtain ⟨-, -, -, -, hdark | hpermit⟩ := (q.eligible_iff k).mp helig
        · rw [hkind] at hdark; cases hdark
        · exact Part.chargeAtGrant_of_permit hpermit
      by_cases hlit : s.campTable[k].settings.kind = .lit
      · rw [if_pos hlit, if_pos hlit, ← hcharge hlit, hq, Part.grant]
        simp only [hlit, if_true]
        rfl
      · rw [if_neg hlit, if_neg hlit, hq, Part.grant]
        simp only [hlit, if_false]
        rfl

/-! ### The head -/

/-- A head that selects no row blocks a permitted laser (R7, R14, R17). -/
theorem Part.setHead_of_unselected (p : Part) {h : HeadState} (hh : ∀ c, h ≠ .verified c) :
    p.setHead h = if p.permitted then Part.raise { p with head := h } .laserBlocked else { p with head := h } :=
  Part.causeEdge_blocked p (Part.not_permitted_of_head hh)

theorem Part.endHeadStep_of_headStep {p : Part} (h : p.boot = .headStep) :
    p.endHeadStep = Part.autostart { p with boot := .ready } := by
  rw [Part.endHeadStep, h]; rfl

theorem Part.endHeadStep_of_other {p : Part} (h : p.boot ≠ .headStep) : p.endHeadStep = p := by
  unfold Part.endHeadStep
  split
  · next hb => exact absurd hb h
  · rfl

/-- Settles O13: a presence change leaves no row selected, and a conversion in flight none before its end. -/
theorem headEvents : Obligations.HeadEvents := by
  refine ⟨fun r => rfl, fun appear s q hq => ?_, fun ohms s q hq => ?_⟩
  · have hhead : s.toPart.setHead (if appear then .unverified else .absent) =
        if s.permitted then q.raise .laserBlocked else q := by
      rw [hq]
      exact s.toPart.setHead_of_unselected (by cases appear <;> simp)
    have hexec : exec (.presenceChange appear) s = .next { s with toPart := s.toPart.changePresence appear } := rfl
    rw [hexec, Part.changePresence, hhead]
    have hboot : q.boot = s.boot := by rw [hq]
    refine ⟨fun hb hp => ?_, fun hb hp => ?_, fun hb hp => ?_, fun hb hp => ?_⟩
    · rw [hp, if_pos rfl, Part.endHeadStep_of_other (by simpa [hboot] using hb)]
    · rw [hp, if_neg (by decide), Part.endHeadStep_of_other (by simpa [hboot] using hb)]
    · rw [hp, if_neg (by decide), Part.endHeadStep_of_headStep (by simpa [hboot] using hb)]
    · rw [hp, if_pos rfl, Part.endHeadStep_of_headStep (by simpa [hboot] using hb)]
  · have hexec : exec (.conversionComplete ohms) s = .next { s with toPart := s.toPart.endConversion ohms } := rfl
    have hend : s.head = .measuring → s.toPart.endConversion ohms = Part.endHeadStep (q.raise .headDone) := by
      intro hm
      have hblocked : s.permitted = false := Part.not_permitted_of_head (by simp [hm])
      rw [Part.endConversion, hm]
      simp only []
      rw [Part.setHead, Part.causeEdge_unpermitted _ hblocked, hq]
    have hboot : q.boot = s.boot := by rw [hq]
    refine ⟨fun hm => ?_, fun hm hb => ?_, fun hm hb => ?_⟩
    · rw [hexec, Part.endConversion]
      split
      · next h => exact absurd h hm
      · rfl
    · rw [hexec, hend hm, Part.endHeadStep_of_other (by simpa [hboot] using hb)]
    · rw [hexec, hend hm, Part.endHeadStep_of_headStep (by simpa [hboot] using hb)]

/-! ### Laser commands -/

/-- Settles O14: each row at a free unit comes to its operation, and STOPPED or a conversion leaves a cause in the set. -/
theorem laserCommands : Obligations.LaserCommands := by
  intro tag s hfree hready
  refine ⟨fun q hq => ?_, ?_, fun hh => ?_, fun hh => ?_, fun q hq h1 h2 => ?_⟩
  · have hblocked : q.permitted = false := by simp [hq, Part.permitted]
    have hcauses : (if s.permitted then q.raise .laserBlocked else q).causes =
        maskOf 8 [s.overEnergy, true, s.interlockOpen, s.headCause] := by
      split <;> simp [hq, Part.causes, Part.headCause, Part.selectedRow]
    rw [exec_command .laserStop hfree (.inl hready) rfl rfl (.inr rfl), ← hcauses,
      ← Part.causeEdge_blocked s.toPart hblocked, hq]
    rfl
  · rw [exec_command .laserRelease hfree (.inl hready) rfl rfl (.inr rfl)]
    rfl
  · rw [exec_command .measureHead hfree (.inl hready) rfl rfl (.inr rfl), Part.carryOut, Part.takeMeasureHead, hh]
    rfl
  · rw [exec_command .measureHead hfree (.inl hready) rfl rfl (.inr rfl), Part.carryOut, Part.takeMeasureHead, hh]
    rfl
  · rw [exec_command .measureHead hfree (.inl hready) rfl rfl (.inr rfl), Part.carryOut, Part.takeMeasureHead, hq,
      ← s.toPart.setHead_of_unselected (h := .measuring) (by simp)]
    split
    · next h => exact absurd h h1
    · next h => exact absurd h h2
    · rfl

end Sys2Proof.Machine

/-! Campaigns (R20 to R39): START and autostart, STOP, HOLD and RESUME, terminal count, and what WARM_RESTART leaves. -/

namespace Sys2Proof.Machine

/-! ### The campaign a command names -/

theorem campaignArg_some {c : Command} {b : Byte} {k : Fin 4} (hc : c.payload = [b]) (hk : b.toNat = k) :
    campaignArg c = some k := by
  have hlt : b.toNat < 4 := hk ▸ k.isLt
  simp only [campaignArg, hc, hlt, dite_true, Option.some.injEq]
  exact Fin.ext hk

theorem campaignArg_none {c : Command} {b : Byte} (hc : c.payload = [b]) (hb : 4 ≤ b.toNat) : campaignArg c = none := by
  simp only [campaignArg, hc, Nat.not_lt.mpr hb, dite_false]

/-! ### Starting -/

/-- A bank opens for the campaign, 2k first (R24). -/
theorem Part.openOrWait_opens {p : Part} {k : Fin 4} {odd : Bool} (hfree : p.banks[bankOf k odd].state = .free)
    (hfirst : odd = true → p.banks[bankOf k false].state ≠ .free) :
    p.openOrWait k = { p with
      runs := p.runs.set k { p.runs[k] with state := .active odd, remaining := p.campTable[k].shots }
      banks := p.banks.set (bankOf k odd) (Bank.opened p.campTable[k].settings) } := by
  rcases p.openOrWait_cases k with ⟨o, hfree', hfirst', he⟩ | ⟨hnone, -⟩
  · have ho : o = odd := by
      cases o <;> cases odd
      · rfl
      · exact absurd hfree' (hfirst rfl)
      · exact absurd hfree (hfirst' rfl)
      · rfl
    rw [he, ho]
  · exact absurd hfree (hnone odd)

theorem Part.openOrWait_waits {p : Part} {k : Fin 4} (hnone : ∀ odd : Bool, p.banks[bankOf k odd].state ≠ .free) :
    p.openOrWait k = { p with
      runs := p.runs.set k { p.runs[k] with state := .waitBank, remaining := p.campTable[k].shots } } := by
  rcases p.openOrWait_cases k with ⟨o, hfree, -, -⟩ | ⟨-, he⟩
  · exact absurd hfree (hnone o)
  · exact he

/-- BANK_WAIT rises for a campaign that has come to wait (R23, R34). -/
theorem Part.noteWait_of_wait {p : Part} {k : Fin 4} (h : p.runs[k].state = .waitBank) : p.noteWait k = p.raise .bankWait := by
  rw [Part.noteWait, if_pos h]

theorem Part.noteWait_of_other {p : Part} {k : Fin 4} (h : p.runs[k].state ≠ .waitBank) : p.noteWait k = p := by
  rw [Part.noteWait, if_neg h]

section
variable (p : Part) (k : Fin 4)

/-- The sort range of the entry passes check 4 of START (R23). -/
def Part.sortRangeOk : Prop :=
  p.campTable[k].settings.sort = true →
    p.campTable[k].settings.sortLo < p.campTable[k].settings.sortHi ∧ p.campTable[k].settings.sortHi < p.gates.nb

theorem Part.startCheck_busy (h : p.runs[k].state ≠ .idle) : p.startCheck k = .busy := by
  rw [Part.startCheck, if_pos h]

theorem Part.startCheck_gate (h : p.runs[k].state = .idle) (hg : p.gates.valid = false) : p.startCheck k = .gateInvalid := by
  simp only [Part.startCheck, h, hg, ne_eq, not_true, if_false, Bool.not_false, if_true]

theorem Part.startCheck_range (h : p.runs[k].state = .idle) (hg : p.gates.valid = true) (hr : ¬ p.sortRangeOk k) :
    p.startCheck k = .rangeInvalid := by
  rw [Part.sortRangeOk, Classical.not_imp, not_and_or] at hr
  simp only [Part.startCheck, h, hg, ne_eq, not_true, if_false, Bool.not_true]
  rw [if_neg (by decide), if_pos]
  simpa using hr

theorem Part.startCheck_ok_iff :
    p.startCheck k = .ok ↔ p.runs[k].state = .idle ∧ p.gates.valid = true ∧ p.sortRangeOk k := by
  constructor
  · intro hok
    by_cases h : p.runs[k].state = .idle
    · cases hg : p.gates.valid
      · rw [p.startCheck_gate k h hg] at hok; cases hok
      · by_cases hr : p.sortRangeOk k
        · exact ⟨h, rfl, hr⟩
        · rw [p.startCheck_range k h hg hr] at hok; cases hok
    · rw [p.startCheck_busy k h] at hok; cases hok
  · rintro ⟨h, hg, hr⟩
    unfold Part.sortRangeOk at hr
    simp only [Part.startCheck, h, hg, ne_eq, not_true, if_false, Bool.not_true]
    rw [if_neg (by decide), if_neg]
    simpa using hr

end

/-- START with its checks refusing (R23). -/
theorem Part.takeStart_refused {p : Part} {c : Command} {k : Fin 4} {code : ResultCode} (hc : campaignArg c = some k)
    (hcode : p.startCheck k = code) (hne : code ≠ .ok) : p.takeStart c = p.answer c code [] := by
  subst hcode
  unfold Part.takeStart
  simp only [hc]

/-- START with its checks passed (R23). -/
theorem Part.takeStart_ok {p q : Part} {c : Command} {k : Fin 4} (hc : campaignArg c = some k)
    (hok : p.startCheck k = .ok) (hq : q = (p.openOrWait k).noteWait k) :
    p.takeStart c = q.answer c .ok [q.runs[k].state.code] := by
  unfold Part.takeStart
  simp only [hc, hok, hq]

/-- Settles O25: the checks decide the code, and openOrWait the bank; autostart asks the same checks. -/
theorem startOpensBank : Obligations.StartOpensBank := by
  refine ⟨fun tag b s c hfree hready hc => ?_, fun p => rfl, fun p k e passes he hpasses => ?_⟩
  · have hexec : exec (.start tag [b]) s = .next { s with toPart := s.toPart.takeStart c } := by
      rw [exec_command .start hfree (.inl hready) rfl rfl (.inr rfl), hc]; rfl
    have hpay : c.payload = [b] := by rw [hc]
    refine ⟨fun hb => ?_, fun k e hk he => ?_⟩
    · rw [hexec, Part.takeStart, campaignArg_none hpay hb]; rfl
    · subst he
      have harg := campaignArg_some hpay hk
      refine ⟨fun hbusy => ?_, fun hidle hgate => ?_, fun hidle hgate hsort hrange => ?_, fun hidle hgate hrange => ?_⟩
      · rw [hexec, Part.takeStart_refused harg (Part.startCheck_busy _ k hbusy) (by decide)]; rfl
      · rw [hexec, Part.takeStart_refused harg (Part.startCheck_gate _ k hidle hgate) (by decide)]; rfl
      · rw [hexec, Part.takeStart_refused harg (Part.startCheck_range _ k hidle hgate fun h => hrange (h hsort)) (by decide)]; rfl
      · have hok : s.startCheck k = .ok := (Part.startCheck_ok_iff _ k).mpr ⟨hidle, hgate, hrange⟩
        refine ⟨fun odd hbank hfirst => ?_, fun q hnone hq => ?_⟩
        · have hopen := Part.openOrWait_opens hbank hfirst
          have hstate : (s.toPart.openOrWait k).runs[k].state = .active odd := by rw [hopen]; simp only [vector_set_get_same]
          rw [hexec, Part.takeStart_ok harg hok rfl, Part.noteWait_of_other (by rw [hstate]; nofun), hstate, hopen]
          rfl
        · have hwait := Part.openOrWait_waits hnone
          have hstate : (s.toPart.openOrWait k).runs[k].state = .waitBank := by rw [hwait]; simp only [vector_set_get_same]
          rw [hexec, Part.takeStart_ok harg hok rfl, Part.noteWait_of_wait hstate, Part.raise_runs, hstate, hwait, hq]
          rfl
  · have hiff : passes = true ↔ (p.campTable[k].autostart && decide (p.startCheck k = .ok)) = true := by
      rw [hpasses, Bool.and_eq_true, decide_eq_true_eq, p.startCheck_ok_iff k, Part.sortRangeOk, he]
    have hone : p.autostartOne k = if passes then p.openOrWait k else p := by
      rw [Part.autostartOne, Bool.eq_iff_iff.mpr hiff]
    subst he
    refine ⟨fun hno => ?_, fun odd hyes hbank hfirst => ?_, fun hyes hnone => ?_⟩
    · rw [hone, hno, if_neg (by decide)]
    · rw [hone, hyes, if_pos rfl, Part.openOrWait_opens hbank hfirst]; rfl
    · rw [hone, hyes, if_pos rfl, Part.openOrWait_waits hnone]

/-! ### STOP, HOLD and RESUME -/

/-- The shot in flight of a stopped campaign is marked abandoned, and no other (R25). -/
theorem Part.abandonShotOf_eq (p : Part) (k : Fin 4) :
    p.abandonShotOf k =
      { p with shot := p.shot.map fun x => { x with abandoned := x.abandoned || decide (x.campaign = k) } } := by
  unfold Part.abandonShotOf
  cases hs : p.shot with
  | none =>
    show p = { p with shot := none }
    rw [← hs]
  | some x =>
    by_cases hk : x.campaign = k
    · simp only [hk, if_true, Option.map_some, decide_true, Bool.or_true]
    · simp only [hk, if_false, Option.map_some, decide_false, Bool.or_false]
      show p = { p with shot := some x }
      rw [← hs]

/-- Settles O26: the campaign's state picks the branch of stopCampaign; HOLD and RESUME write one flag. -/
theorem stopHoldResume : Obligations.StopHoldResume := by
  intro tag b s hfree hready
  have hstop := exec_command (s := s) (i := .stop tag [b]) .stop hfree (.inl hready) rfl rfl (.inr rfl)
  have hhold := exec_command (s := s) (i := .hold tag [b]) .hold hfree (.inl hready) rfl rfl (.inr rfl)
  have hresume := exec_command (s := s) (i := .resume tag [b]) .resume hfree (.inl hready) rfl rfl (.inr rfl)
  rw [hstop, hhold, hresume]
  simp only [Part.carryOut, Part.takeStop, Part.takeHold, Part.takeResume]
  refine ⟨fun hb => ?_, fun k q hk hq => ?_⟩
  · have harg : ∀ kind, campaignArg { kind := kind, tag := tag, payload := [b] } = none := fun _ => campaignArg_none rfl hb
    simp only [harg]
    exact ⟨rfl, rfl, rfl⟩
  · have harg : ∀ kind, campaignArg { kind := kind, tag := tag, payload := [b] } = some k := fun _ => campaignArg_some rfl hk
    simp only [harg]
    have hshot : s.toPart.abandonShotOf k = q := by rw [hq]; exact s.toPart.abandonShotOf_eq k
    refine ⟨fun hst => ?_, fun hst => ?_, fun odd hst => ?_, rfl, rfl⟩
    · rw [Part.stopCampaign, hshot, hst]; rfl
    · rw [Part.stopCampaign, hshot, hst, hq]; rfl
    · rw [Part.stopCampaign, hshot, hst, hq]; rfl

end Sys2Proof.Machine

/-! Terminal count (R32 to R34, R70, R74) and WARM_RESTART (R160). -/

namespace Sys2Proof.Machine

/-- A notice goes before the profile out slot, so raising a flag leaves the engine alone (R152, R156). -/
@[simp] theorem Part.raise_engine (p : Part) (f : Flag) : (p.raise f).engine = p.engine := by
  unfold Part.raise Part.kick Part.beginFrame
  dsimp only
  split
  · rfl
  · split
    · split
      · split
        · rfl
        · rw [if_pos (Flag.or_mask_ne_zero _ _)]
      · rfl
    · rfl

/-! ### What follows the closing of a bank -/

section
variable {p : Part} {k : Fin 4}

theorem Part.afterClose_once (h : p.campTable[k].repeats = .once) : p.afterClose k = p.raise .campaignEnd := by
  simp only [Part.afterClose, h]

theorem Part.afterClose_continuous (h : p.campTable[k].repeats = .continuous) :
    p.afterClose k = (p.openOrWait k).noteWait k := by
  simp only [Part.afterClose, h]

/-- A CONTINUOUS campaign opens its other bank (R34). -/
theorem Part.afterClose_opens (h : p.campTable[k].repeats = .continuous) {odd : Bool}
    (hbusy : p.banks[bankOf k odd].state ≠ .free) (hfree : p.banks[bankOf k !odd].state = .free) :
    p.afterClose k = { p with
      runs := p.runs.set k { p.runs[k] with state := .active !odd, remaining := p.campTable[k].shots }
      banks := p.banks.set (bankOf k !odd) (Bank.opened p.campTable[k].settings) } := by
  have hopen := Part.openOrWait_opens hfree fun hodd => by
    rw [Bool.not_eq_true'] at hodd; subst hodd; exact hbusy
  rw [Part.afterClose_continuous h, Part.noteWait_of_other, hopen]
  rw [hopen, vector_set_get_same]
  nofun

/-- A CONTINUOUS campaign whose other bank is not FREE waits, and BANK_WAIT rises (R34). -/
theorem Part.afterClose_waits (h : p.campTable[k].repeats = .continuous) {odd : Bool}
    (hbusy : p.banks[bankOf k odd].state ≠ .free) (hother : p.banks[bankOf k !odd].state ≠ .free) :
    p.afterClose k = Part.raise { p with
      runs := p.runs.set k { p.runs[k] with state := .waitBank, remaining := p.campTable[k].shots } } .bankWait := by
  have hwait := Part.openOrWait_waits (p := p) (k := k) fun o => by
    rcases Bool.eq_or_eq_not o odd with rfl | rfl
    · exact hbusy
    · exact hother
  rw [Part.afterClose_continuous h, Part.noteWait_of_wait, hwait]
  rw [hwait, vector_set_get_same]

/-- Whatever a campaign does after its bank has closed, the engine, every bank but its other one, the other campaigns and its own
counters stay (R33, R34). -/
theorem Part.afterClose_keeps {odd : Bool} (hbusy : p.banks[bankOf k odd].state ≠ .free) :
    (p.afterClose k).engine = p.engine ∧
    (∀ j : Fin 8, j ≠ bankOf k !odd → (p.afterClose k).banks[j] = p.banks[j]) ∧
    (∀ j : Fin 4, j ≠ k → (p.afterClose k).runs[j] = p.runs[j]) ∧
    (p.afterClose k).runs[k].sequence = p.runs[k].sequence ∧ (p.afterClose k).runs[k].held = p.runs[k].held ∧
    (p.afterClose k).runs[k].completed = p.runs[k].completed := by
  cases h : p.campTable[k].repeats with
  | once => simp [Part.afterClose_once h]
  | continuous =>
    by_cases hfree : p.banks[bankOf k !odd].state = .free
    · rw [Part.afterClose_opens h hbusy hfree]
      simp only [vector_set_get_same, true_and, and_true]
      exact ⟨fun j hj => vector_set_get_ne _ _ hj, fun j hj => vector_set_get_ne _ _ hj⟩
    · rw [Part.afterClose_waits h hbusy hfree, Part.raise_engine, Part.raise_banks, Part.raise_runs]
      simp only [vector_set_get_same, implies_true, true_and, and_true]
      exact fun j hj => vector_set_get_ne _ _ hj

end

/-! ### Terminal count -/

/-- The bank after terminal count: CLOSED behind a bank in hand, PROCESSING when the engine was IDLE (R70, R74). -/
def Part.bankAtTerminal (p : Part) (k : Fin 4) (b : Fin 8) : Bank :=
  { p.banks[b] with state := if p.engine.inHand = none then .processing else .closed, sequence := p.runs[k].sequence }

theorem Part.bankAtTerminal_state (p : Part) (k : Fin 4) (b : Fin 8) : (p.bankAtTerminal k b).state ≠ .free := by
  unfold Part.bankAtTerminal
  dsimp only
  split <;> decide

/-- What the closing of a bank leaves when an IDLE engine has nothing queued (R70, R74). -/
theorem Part.closeBank_spec {p : Part} (k : Fin 4) (b : Fin 8) (hidle : p.engine.inHand = none → p.engine.queue = []) :
    ∃ e : Engine,
      (p.engine.inHand ≠ none → e = { p.engine with queue := p.engine.queue ++ [b] }) ∧
      (p.engine.inHand = none → e.queue = [] ∧ e.inHand.map InHand.bank = some b) ∧
      p.closeBank k b = { p with
        banks := p.banks.set b (p.bankAtTerminal k b)
        runs := p.runs.set k { p.runs[k] with state := .idle, remaining := 0, sequence := (p.runs[k].sequence + 1) % 65536 }
        engine := e } := by
  rw [Part.closeBank_eq]
  by_cases hi : p.engine.inHand = none
  · obtain ⟨lit, erefs, he⟩ := Part.beginNext_cons (p := p.bankClosed k b) (b := b) (rest := []) hi
      (by rw [Part.bankClosed, hidle hi]; rfl)
    refine ⟨{ p.engine with inHand := some { bank := b, lit := lit }, queue := [], lastERef := erefs }, fun hne => absurd hi hne,
      fun _ => ⟨rfl, rfl⟩, he.trans ?_⟩
    simp only [Part.bankClosed, vector_set_get_same, Vector.set_set, Part.bankAtTerminal, hi, if_true]
  · refine ⟨_, fun _ => rfl, fun hn => absurd hn hi, ?_⟩
    rw [Part.beginNext_idle (.inl (by exact hi)), Part.bankClosed, Part.bankAtTerminal, if_neg hi]

section
variable {p : Part} {k : Fin 4} {odd : Bool} (hk : p.runs[k].state = .active odd)
include hk

theorem Part.countDown_more (hr : 1 < p.runs[k].remaining) :
    p.countDown k = { p with runs := p.runs.set k { p.runs[k] with remaining := p.runs[k].remaining - 1 } } := by
  simp only [Part.countDown, hk, if_neg (Nat.not_le.mpr hr)]
  rfl

theorem Part.countDown_last (hr : p.runs[k].remaining ≤ 1) :
    p.countDown k = (p.closeBank k (bankOf k odd)).afterClose k := by
  simp only [Part.countDown, hk, if_pos hr]

end

/-- Settles O27: closeBank_spec says how the bank closes, and the three afterClose lemmas how the campaign goes on. -/
theorem terminalCount : Obligations.TerminalCount := by
  rintro p k odd b o hk rfl rfl
  refine ⟨Part.countDown_more hk, fun hr => ?_⟩
  rw [Part.countDown_last hk hr]
  have hclosed : (p.engine.inHand = none → p.engine.queue = []) → ∃ q : Part, p.closeBank k (bankOf k odd) = q ∧
      q.banks[bankOf k odd].state ≠ .free ∧ q.banks[bankOf k odd] = p.bankAtTerminal k (bankOf k odd) ∧
      (p.engine.inHand ≠ none → q.engine = { p.engine with queue := p.engine.queue ++ [bankOf k odd] }) ∧
      (p.engine.inHand = none → q.engine.queue = [] ∧ q.engine.inHand.map InHand.bank = some (bankOf k odd)) ∧
      (∀ j : Fin 8, j ≠ bankOf k odd → q.banks[j] = p.banks[j]) ∧ (∀ j : Fin 4, j ≠ k → q.runs[j] = p.runs[j]) ∧
      q.runs[k] = { p.runs[k] with state := .idle, remaining := 0, sequence := (p.runs[k].sequence + 1) % 65536 } ∧
      q.campTable = p.campTable ∧ q.status = p.status := fun hidle => by
    obtain ⟨e, hhand, hbegun, hclose⟩ := p.closeBank_spec k (bankOf k odd) hidle
    refine ⟨_, hclose, ?_, vector_set_get_same _ _ _, hhand, hbegun, fun j hj => vector_set_get_ne _ _ hj,
      fun j hj => vector_set_get_ne _ _ hj, vector_set_get_same _ _ _, rfl, rfl⟩
    rw [vector_set_get_same]
    exact p.bankAtTerminal_state _ _
  have hne : bankOf k odd ≠ bankOf k !odd := (bankOf_not_ne k odd).symm
  refine ⟨fun h hh => ?_, fun hi hq => ?_, fun hidle => ?_⟩
  · have hsome : p.engine.inHand ≠ none := by rw [hh]; nofun
    obtain ⟨q, hq, hbusy, hbank, hhand, -⟩ := hclosed fun hn => absurd hn hsome
    obtain ⟨hengine, hbanks, -⟩ := Part.afterClose_keeps hbusy
    rw [hq, hbanks _ hne, hengine, hbank, hhand hsome, Part.bankAtTerminal, if_neg hsome]
    exact ⟨rfl, rfl⟩
  · obtain ⟨q, hq, hbusy, hbank, -, hbegun, -⟩ := hclosed fun _ => hq
    obtain ⟨hengine, hbanks, -⟩ := Part.afterClose_keeps hbusy
    rw [hq, hbanks _ hne, hengine, hbank, Part.bankAtTerminal, if_pos hi]
    exact ⟨rfl, hbegun hi⟩
  · obtain ⟨q, hq, hbusy, -, -, -, hother, hothers, hrun, htable, hstatus⟩ := hclosed hidle
    obtain ⟨-, hbanks, hruns, hseq, hheld, hcompleted⟩ := Part.afterClose_keeps hbusy
    rw [hq, hseq, hheld, hcompleted, hrun, ← htable, ← hstatus, ← hother (bankOf k !odd) hne.symm]
    refine ⟨rfl, rfl, rfl, fun j hj => (hruns j hj).trans (hothers j hj), fun j hb ho => (hbanks j ho).trans (hother j hb),
      fun hrep => ?_, fun hrep hfree => ?_, fun hrep hfree => ?_⟩
    · rw [Part.afterClose_once hrep, Part.raise_runs, Part.raise_banks, Part.raise_status_flags, hrun]
      exact ⟨rfl, rfl, rfl, rfl⟩
    · rw [Part.afterClose_opens hrep hbusy hfree]
      simp only [vector_set_get_same]
      exact ⟨trivial, trivial, rfl, trivial⟩
    · rw [Part.afterClose_waits hrep hbusy hfree, Part.raise_runs, Part.raise_banks, Part.raise_status_flags]
      simp only [vector_set_get_same, and_self]

/-! ### WARM_RESTART -/

theorem Part.restartMeasuring_runs (p : Part) :
    #v[p.runs[0].restarted, p.runs[1].restarted, p.runs[2].restarted, p.runs[3].restarted] =
      Vector.ofFn fun k : Fin 4 => { p.runs[k] with state := .idle, held := false, remaining := 0 } := by
  ext i hi
  match i, hi with
  | 0, _ | 1, _ | 2, _ | 3, _ => rfl

theorem Slot.restarted_eq (x : Slot) : x.restarted = if x = .sending then .sending else .empty := by
  cases x <;> rfl

/-- Settles O20: restartShot ends the shot, restartMeasuring and restartFlags clear the blocks. -/
theorem warmRestartEffect : Obligations.WarmRestartEffect := by
  intro tag s q hfree hready hq
  rw [exec_command .warmRestart hfree (.inl hready) rfl rfl (.inr rfl), Part.carryOut, Part.takeWarmRestart, hq]
  refine ⟨fun hs => ?_, fun x hx => ?_⟩
  · have hrestart : s.toPart.restartShot = { s.toPart with port := { s.port with timer := none } } := by
      simp only [Part.restartShot, hs]
    rw [hrestart, ← s.toPart.restartMeasuring_runs, ← s.engine.slot.restarted_eq]
    rfl
  · have hrestart : s.toPart.restartShot = { s.toPart with
        shot := none
        bucket := match s.pendingCharge with | some c => min (s.bucket + c) 16777215 | none => s.bucket
        pendingCharge := none
        port := { s.port with
          timer := none, rx := s.port.rx.unbind, lastEnd := some (x.ended .abandoned .restart none none) } } := by
      rw [Part.restartShot, hx]
      exact congrArg (Part.setLastEnd · _) (s.toPart.removeShot.chargeShot_none)
    rw [hrestart, ← s.toPart.restartMeasuring_runs, ← s.engine.slot.restarted_eq]
    cases s.pendingCharge <;> cases s.port.rx <;> rfl

end Sys2Proof.Machine

/-! Field encodings (R171): big-endian fields read back, optional fields and masks as explicit bytes. -/

namespace Sys2Proof.Machine

/-! ### Bytes and big-endian fields -/

@[simp] theorem byte_toNat (v : Nat) : (byte v).toNat = v % 256 := BitVec.toNat_ofNat v 8

@[simp] theorem byte_of_toNat (b : Byte) : byte b.toNat = b := by simp [byte]

@[simp] theorem be_length (n v : Nat) : (be n v).length = n := by
  induction n generalizing v with
  | zero => rfl
  | succ n ih => simp [be, ih]

theorem ofBe_append_singleton (bs : List Byte) (b : Byte) : ofBe (bs ++ [b]) = ofBe bs * 256 + b.toNat := by
  simp [ofBe]

theorem ofBe_be (n v : Nat) : ofBe (be n v) = v % 256 ^ n := by
  induction n generalizing v with
  | zero => simp [be, ofBe, Nat.mod_one]
  | succ n ih =>
    rw [be, ofBe_append_singleton, ih, byte_toNat, Nat.pow_succ', Nat.mod_mul]
    omega

theorem be_ofBe (bs : List Byte) : be bs.length (ofBe bs) = bs := by
  induction bs using List.reverseRecOn with
  | nil => rfl
  | append_singleton bs b ih =>
    have hb : b.toNat < 256 := b.isLt
    rw [List.length_append, List.length_singleton, be, ofBe_append_singleton,
      show (ofBe bs * 256 + b.toNat) / 256 = ofBe bs by omega, ih]
    congr 2
    apply BitVec.eq_of_toNat_eq
    rw [byte_toNat]
    omega

/-- A field in the midst of a run of bytes (R171). -/
theorem field_append (pre bs post : List Byte) : field (pre ++ (bs ++ post)) pre.length bs.length = ofBe bs := by
  simp [field]

theorem field_be {at_ : Nat} {pre : List Byte} (hpre : pre.length = at_) (n v : Nat) (post : List Byte) :
    field (pre ++ (be n v ++ post)) at_ n = v % 256 ^ n := by
  have h := field_append pre (be n v) post
  rwa [be_length, ofBe_be, hpre] at h

/-! ### Short fields as explicit bytes -/

theorem be_one (v : Nat) : be 1 v = [byte v] := rfl
theorem be_two (v : Nat) : be 2 v = [byte (v / 256), byte v] := rfl
theorem be_three (v : Nat) : be 3 v = [byte (v / 256 / 256), byte (v / 256), byte v] := rfl
theorem be_four (v : Nat) : be 4 v = [byte (v / 256 / 256 / 256), byte (v / 256 / 256), byte (v / 256), byte v] := rfl

theorem ofBe_two (v : Nat) : ofBe [byte (v / 256), byte v] = v % 65536 := ofBe_be 2 v
theorem ofBe_three (v : Nat) : ofBe [byte (v / 256 / 256), byte (v / 256), byte v] = v % 16777216 := ofBe_be 3 v
theorem ofBe_four (v : Nat) :
    ofBe [byte (v / 256 / 256 / 256), byte (v / 256 / 256), byte (v / 256), byte v] = v % 4294967296 := ofBe_be 4 v

/-- A mask field holds its mask. -/
theorem ofBe_mask (m : BitVec 16) : ofBe [byte (m.toNat / 256), byte m.toNat] = m.toNat :=
  (ofBe_two _).trans (Nat.mod_eq_of_lt m.isLt)

/-- A signed field holds its value in two's complement. -/
theorem ofBe_signed (v : Int) : ((ofBe (beSigned v) : Nat) : Int) = v % 4294967296 := by
  have hnonneg : 0 ≤ v % 4294967296 := Int.emod_nonneg _ (by decide)
  have hlt : v % 4294967296 < 4294967296 := Int.emod_lt_of_pos _ (by decide)
  rw [beSigned, ofBe_be, Nat.mod_eq_of_lt (by omega), Int.toNat_of_nonneg hnonneg]

@[simp] theorem beSigned_length (v : Int) : (beSigned v).length = 4 := be_length _ _

/-- The presence byte of an optional field. -/
def presence {α : Type} (x : Option α) : Byte := if x.isSome then 1 else 0

@[simp] theorem presence_some {α : Type} (v : α) : presence (some v) = 1 := rfl
@[simp] theorem presence_none {α : Type} : presence (none : Option α) = 0 := rfl

theorem beOpt_eq (n : Nat) (x : Option Nat) : beOpt n x = presence x :: be n (x.getD 0) := by cases x <;> rfl

/-! ### Masks -/

/-- The mask of three flags, read back. -/
theorem LayerFlags.mask_bits (f : LayerFlags) :
    f.mask.getLsbD 0 = f.topSeen ∧ f.mask.getLsbD 1 = f.clipped ∧ f.mask.getLsbD 2 = f.belowRidge ∧ f.mask.toNat < 8 := by
  obtain ⟨a, b, c⟩ := f
  revert a b c
  decide

/-- The mask of four causes, read back. -/
theorem maskOf_four (a b c d : Bool) :
    (maskOf 8 [a, b, c, d]).getLsbD 0 = a ∧ (maskOf 8 [a, b, c, d]).getLsbD 1 = b ∧ (maskOf 8 [a, b, c, d]).getLsbD 2 = c ∧
      (maskOf 8 [a, b, c, d]).getLsbD 3 = d ∧ (maskOf 8 [a, b, c, d]).toNat < 16 := by
  revert a b c d
  decide

/-! ### Outbound frames -/

theorem darkSourceBytes_eq (x : Option (Fin 4 × Nat)) :
    darkSourceBytes x =
      [presence x, byte (x.elim 0 fun y => y.1.val), byte (x.elim 0 Prod.snd / 256), byte (x.elim 0 Prod.snd)] := by
  cases x <;> rfl

theorem TrackState.code_eq (x : TrackState) : x.code = if x = .tentative then 0 else if x = .confirmed then 1 else 2 := by
  cases x <;> rfl

theorem LayerClass.code_eq (x : LayerClass) : x.code = if x = .fog then 1 else 0 := by cases x <;> rfl

@[simp] theorem ReportEntry.bytes_length (e : ReportEntry) : e.bytes.length = 13 := by
  simp only [ReportEntry.bytes, beOpt_eq, List.length_append, List.length_cons, be_length, beSigned_length, List.length_nil]

theorem flatten_length_map {α : Type} (f : α → List Byte) (n : Nat) (hf : ∀ x, (f x).length = n) (xs : List α) :
    (xs.map f).flatten.length = n * xs.length := by
  induction xs with
  | nil => rfl
  | cons x xs ih => rw [List.map_cons, List.flatten_cons, List.length_append, hf, ih, List.length_cons]; ring

/-- A field of equal pieces: piece `i` stands behind the `i` pieces before it. -/
theorem field_flatten {α : Type} (f : α → List Byte) (n : Nat) (hf : ∀ x, (f x).length = n) (xs : List α) {i : Nat} {x : α}
    (h : xs[i]? = some x) : field ((xs.map f).flatten) (n * i) n = ofBe (f x) := by
  obtain ⟨hi, rfl⟩ := List.getElem?_eq_some_iff.mp h
  have hsplit : xs = xs.take i ++ xs[i] :: xs.drop (i + 1) := by
    rw [List.getElem_cons_drop, List.take_append_drop]
  have hlen : ((xs.take i).map f).flatten.length = n * i := by
    rw [flatten_length_map f n hf, List.length_take, Nat.min_eq_left (Nat.le_of_lt hi)]
  have hmap : (xs.map f).flatten = ((xs.take i).map f).flatten ++ (f xs[i] ++ ((xs.drop (i + 1)).map f).flatten) := 
    (congrArg (fun ys => (ys.map f).flatten) hsplit).trans
      (by rw [List.map_append, List.map_cons, List.flatten_append, List.flatten_cons])
  rw [hmap, ← hlen, ← hf xs[i]]
  exact field_append _ _ _

/-- Settles O44: every header spelled out byte by byte, the pieces behind it by their number. -/
theorem outboundLayouts : Obligations.OutboundLayouts := by
  refine ⟨fun a b ps => ⟨rfl, rfl, ?_⟩, fun r d hd => ⟨rfl, rfl, ?_⟩, fun e d hd => ?_, fun p d hd => ⟨rfl, rfl, ?_⟩⟩
  · cases ps <;> rfl
  · simp only [Report.frame, beOpt_eq, beMask, be_two, be_four, List.cons_append, List.nil_append] at hd
    subst hd
    refine ⟨?_, rfl, ofBe_two _, ofBe_four _, rfl, fun h hh => ?_, fun hh => ?_, fun h hh => ?_, fun hh => ?_, ofBe_mask _, rfl, rfl⟩
    · simp only [List.length_cons, flatten_length_map ReportEntry.bytes 13 ReportEntry.bytes_length]; omega
    · rw [hh]; exact ⟨rfl, ofBe_two _⟩
    · rw [hh]; rfl
    · rw [hh]; exact ⟨rfl, ofBe_two _⟩
    · rw [hh]; rfl
  · simp only [ReportEntry.bytes, beOpt_eq, beSigned, be_two, be_four, List.cons_append, List.nil_append] at hd
    subst hd
    refine ⟨rfl, rfl, ?_, ?_, ⟨_, rfl, e.flags.mask_bits⟩, ofBe_two _, fun h hh => ?_, fun hh => ?_, ofBe_signed _⟩
    · rw [← TrackState.code_eq]; rfl
    · rw [← LayerClass.code_eq]; rfl
    · rw [hh]; exact ⟨rfl, ofBe_two _⟩
    · rw [hh]; rfl
  · simp only [Profile.frame, beOpt_eq, beMask, be_two, be_four, darkSourceBytes_eq, List.cons_append, List.nil_append] at hd
    subst hd
    refine ⟨?_, rfl, rfl, ofBe_two _, ofBe_four _, ofBe_four _, ofBe_two _, ofBe_two _, ofBe_two _, ofBe_two _, ofBe_four _,
      fun e he => ?_, fun he => ?_, rfl, ofBe_two _, ofBe_mask _, rfl, fun k q hq => ?_, fun hq => ?_, fun i v hv => ?_⟩
    · simp only [List.length_cons, flatten_length_map beSigned 4 beSigned_length]; omega
    · rw [he]; exact ⟨rfl, ofBe_two _⟩
    · rw [he]; rfl
    · rw [hq]; exact ⟨rfl, rfl, ofBe_two _⟩
    · rw [hq]; rfl
    · rw [← ofBe_signed, ← field_flatten beSigned 4 beSigned_length _ hv, Nat.add_comm]
      rfl

end Sys2Proof.Machine

/-! The commands that read (R13, R37, R135, R151, R159): the layouts of their replies, and the runs of entries they name. -/

namespace Sys2Proof.Machine

/-! ### READ_STATUS -/

/-- Byte `j` of the queued banks (R159). -/
def queueByte (q : List (Fin 8)) (j : Nat) : Byte := (q[j]?).elim 0 fun b => byte b.val

theorem queueBytes_eq (q : List (Fin 8)) : queueBytes q = (List.range 8).map (queueByte q) := by
  apply List.ext_getElem?
  intro j
  by_cases hj : j < 8
  · rw [queueBytes, List.getElem?_take_of_lt hj, List.getElem?_map (l := List.range 8), List.getElem?_range hj, Option.map_some,
      queueByte]
    by_cases hq : j < q.length
    · rw [List.getElem?_append_left (by simpa using hq), List.getElem?_map, List.getElem?_eq_getElem hq]
      rfl
    · rw [List.getElem?_append_right (by simpa using hq), List.getElem?_replicate, if_pos (by omega),
        List.getElem?_eq_none (Nat.le_of_not_lt hq)]
      rfl
  · rw [List.getElem?_eq_none (by simp [queueBytes]; omega), List.getElem?_eq_none (by simpa using hj)]

/-- The last shot end byte by byte; with none all are 0 (R57). -/
theorem shotEndBytes_eq (x : Option ShotEnd) :
    shotEndBytes x =
      [presence x, x.elim 0 fun e => e.outcome.code, x.elim 0 fun e => e.reason.code, x.elim 0 fun e => byte e.campaign,
        x.elim 0 fun e => e.kind.code, x.elim 0 ShotEnd.expectedTag, presence (x.bind ShotEnd.receivedTag),
        byte (((x.bind ShotEnd.receivedTag).map BitVec.toNat).getD 0), presence (x.bind ShotEnd.energy),
        byte ((x.bind ShotEnd.energy).getD 0 / 256), byte ((x.bind ShotEnd.energy).getD 0)] := by
  cases x with
  | none => rfl
  | some e =>
    simp only [shotEndBytes, beOpt_eq, Option.bind_some]
    cases e.receivedTag <;> rfl

/-- Settles O16: the layout spelled out byte by byte. -/
theorem readStatusLayout : Obligations.ReadStatusLayout := by
  intro tag s hfree
  obtain ⟨-, -, hcommands⟩ := s.toPart.takesAtOnce_iff.mp hfree
  refine ⟨s.toPart.statusLayout, exec_command .readStatus hfree (.inr rfl) rfl rfl (.inr rfl), ?_⟩
  generalize hd : s.toPart.statusLayout = d
  delta Part.statusLayout at hd
  simp only [beOpt_eq, beMask, be_one, be_two, shotEndBytes_eq, queueBytes_eq, darkSourceBytes_eq, hcommands,
    s.toPart.partState_code, List.range, List.range.loop, List.map_cons, List.map_nil, List.cons_append, List.nil_append] at hd
  subst hd
  refine ⟨rfl, rfl, rfl, fun r hr => ?_, fun hr => ?_, rfl, fun a ha => ?_, fun ha => ?_, ofBe_mask _, ofBe_mask _, rfl,
    ofBe_mask _, rfl, fun r hr => ?_, fun hr => ?_, rfl, rfl, rfl, rfl, fun he => ?_, fun e he => ?_, rfl, ofBe_two _, rfl,
    fun h hh => ?_, fun hh => ?_, rfl, fun j b hj hb => ?_, fun j hj hlen => ?_, rfl, fun k q hq => ?_, fun hq => ?_, ?_, rfl, rfl⟩
  · rw [hr]; exact ⟨rfl, rfl⟩
  · rw [hr]; exact ⟨rfl, rfl⟩
  · rw [ha]; exact ⟨rfl, ofBe_two a⟩
  · rw [ha]; exact ⟨rfl, ofBe_two 0⟩
  · rw [hr]; exact ⟨rfl, rfl⟩
  · rw [hr]; exact ⟨rfl, rfl⟩
  · rw [he]; rfl
  · rw [he]
    simp only [Option.bind_some]
    refine ⟨rfl, fun r hr => ?_, fun hr => ?_, fun x hx => ?_, fun hx => ?_⟩
    · rw [hr]; exact ⟨rfl, congrArg some (byte_of_toNat r)⟩
    · rw [hr]; exact ⟨rfl, rfl⟩
    · rw [hx]; exact ⟨rfl, ofBe_two x⟩
    · rw [hx]; exact ⟨rfl, ofBe_two 0⟩
  · rw [hh]; rfl
  · rw [hh]; rfl
  · have hbyte : queueByte s.engine.queue j = byte b := by rw [queueByte, hb]; rfl
    rw [← hbyte]
    interval_cases j <;> rfl
  · have hbyte : queueByte s.engine.queue j = 0 := by rw [queueByte, List.getElem?_eq_none hlen]; rfl
    rw [← hbyte]
    interval_cases j <;> rfl
  · rw [hq]; exact ⟨rfl, rfl, ofBe_two q⟩
  · rw [hq]; rfl
  · exact congrArg some (by cases s.engine.slot <;> rfl)

/-! ### READ_LASER and READ_CAMPAIGN -/

/-- A bank block as its eleven bytes (R172). -/
theorem Part.bankBlock_eq (p : Part) (b : Fin 8) :
    p.bankBlock b = [byte b, p.banks[b].state.code, presence p.banks[b].shownSequence,
      byte (p.banks[b].shownSequence.getD 0 / 256), byte (p.banks[b].shownSequence.getD 0), byte (p.banks[b].fired / 256),
      byte p.banks[b].fired, byte (p.banks[b].accepted / 256), byte p.banks[b].accepted, byte (p.banks[b].rejected / 256),
      byte p.banks[b].rejected] := by
  rw [Part.bankBlock, beOpt_eq]
  rfl

theorem Bank.shownSequence_closed {b : Bank} (h : b.state = .closed ∨ b.state = .processing) :
    b.shownSequence = some b.sequence := by
  rcases h with h | h <;> rw [Bank.shownSequence, h]

theorem Bank.shownSequence_open {b : Bank} (h : b.state = .free ∨ b.state = .filling) : b.shownSequence = none := by
  rcases h with h | h <;> rw [Bank.shownSequence, h]

theorem HeadState.headCode_none {h : HeadState} (hh : ∀ c, h ≠ .verified c) : h.headCode = none := by
  cases h with
  | verified c => exact absurd rfl (hh c)
  | absent | unverified | measuring | unreadable => rfl

theorem Part.headCause_eq_false_iff (p : Part) :
    p.headCause = false ↔ ∃ c : Fin 8, p.head = .verified c ∧ p.headTable[c].allowed = true := by
  unfold Part.headCause Part.selectedRow
  cases p.head with
  | verified c => simp
  | absent | unverified | measuring | unreadable => simp

theorem Part.fillingBank_none {p : Part} {k : Fin 4} (h : ∀ odd, p.runs[k].state ≠ .active odd) : p.fillingBank k = none := by
  unfold Part.fillingBank
  split
  · next odd ho => exact absurd ho (h odd)
  · rfl

theorem Part.shotMark_own {p : Part} {x : Shot} {k : Fin 4} (hx : p.shot = some x) (hk : x.campaign = k) :
    p.shotMark k = if x.abandoned then 2 else 1 := by
  rw [Part.shotMark, hx]
  exact if_pos hk

theorem Part.shotMark_other {p : Part} {k : Fin 4} (h : ∀ x, p.shot = some x → x.campaign ≠ k) : p.shotMark k = 0 := by
  unfold Part.shotMark
  split
  · next x hx => exact if_neg (h x hx)
  · rfl

theorem exists_of_length_four {α : Type} {xs : List α} (h : xs.length = 4) : ∃ a b c d, xs = [a, b, c, d] := by
  match xs, h with
  | [a, b, c, d], _ => exact ⟨a, b, c, d, rfl⟩

/-- Settles O17: both layouts spelled out byte by byte. -/
theorem laserAndCampaignLayouts : Obligations.LaserAndCampaignLayouts := by
  refine ⟨fun tag s hfree => ?_, fun tag b s hfree => ?_⟩
  · refine ⟨s.toPart.laserLayout, exec_command .readLaser hfree (.inr rfl) rfl rfl (.inr rfl), ?_⟩
    generalize hd : s.toPart.laserLayout = d
    delta Part.laserLayout at hd
    simp only [beOpt_eq, be_one, be_two, be_three, be_four, List.cons_append, List.nil_append] at hd
    subst hd
    obtain ⟨hover, hstop, hlock, hhead, hlt⟩ := maskOf_four s.overEnergy s.stopped s.interlockOpen s.headCause
    refine ⟨rfl, ofBe_three _, ⟨s.causes, rfl, hover, hstop, hlock, ?_, hlt⟩, ?_, rfl, fun c hc => ?_, fun hc => ?_, fun x hx => ?_,
      fun hx => ?_, rfl, ofBe_four _⟩
    · rw [Part.causes, hhead]
      exact s.toPart.headCause_eq_false_iff
    · exact congrArg some (by cases s.interlockOpen <;> rfl)
    · rw [hc]; exact ⟨rfl, rfl⟩
    · rw [HeadState.headCode_none hc]; exact ⟨rfl, rfl⟩
    · rw [hx]; exact ⟨rfl, ofBe_two x⟩
    · rw [hx]; exact ⟨rfl, ofBe_two 0⟩
  · rw [exec_command (i := .readCampaign tag [b]) .readCampaign hfree (.inr rfl) rfl rfl (.inr rfl), Part.carryOut,
      Part.takeReadCampaign]
    refine ⟨fun hb => ?_, fun k hk => ⟨s.toPart.campaignLayout k, ?_, ?_⟩⟩
    · rw [campaignArg_none rfl hb]; rfl
    · rw [campaignArg_some rfl hk]; rfl
    · generalize hd : s.toPart.campaignLayout k = d
      delta Part.campaignLayout at hd
      simp only [beOpt_eq, be_one, be_two, Part.bankBlock_eq, List.cons_append, List.nil_append] at hd
      subst hd
      refine ⟨rfl, rfl, ofBe_two _, fun odd ho => ?_, fun ho => ?_, ofBe_two _, ofBe_two _, fun odd o ho => ?_, fun x hx hk => ?_,
        fun hx => ?_, rfl, fun ho => ?_⟩
      · rw [Part.fillingBank_active ho]; exact ⟨rfl, rfl⟩
      · rw [Part.fillingBank_none ho]; exact ⟨rfl, rfl⟩
      · subst ho
        cases odd with
        | false =>
          refine ⟨rfl, rfl, fun h => ?_, fun h => ?_, ofBe_two _, ofBe_two _, ofBe_two _⟩
          · rw [Bank.shownSequence_closed h]; exact ⟨rfl, ofBe_two _⟩
          · rw [Bank.shownSequence_open h]; exact ⟨rfl, ofBe_two 0⟩
        | true =>
          refine ⟨rfl, rfl, fun h => ?_, fun h => ?_, ofBe_two _, ofBe_two _, ofBe_two _⟩
          · rw [Bank.shownSequence_closed h]; exact ⟨rfl, ofBe_two _⟩
          · rw [Bank.shownSequence_open h]; exact ⟨rfl, ofBe_two 0⟩
      · rw [← Part.shotMark_own hx hk]; rfl
      · rw [← Part.shotMark_other hx]; rfl
      · obtain ⟨a, b, c, e, horder⟩ := exists_of_length_four ho
        rw [horder]
        exact ⟨rfl, rfl, rfl⟩

/-! ### READ_TRACKS -/

/-- The tracks of the reply are the table's in insertion order of their ids (R135). -/
theorem sortById_eq (ts : List Track) : sortById ts = ts.insertionSort fun a b => a.id ≤ b.id := by
  have hinsert : ∀ (t : Track) (us : List Track), insertById t us = us.orderedInsert (fun a b => a.id ≤ b.id) t := by
    intro t us
    induction us with
    | nil => rfl
    | cons u rest ih => rw [insertById, List.orderedInsert_cons, ih]
  induction ts with
  | nil => rfl
  | cons t rest ih => rw [List.insertionSort_cons, ← ih, ← hinsert]; rfl

theorem sortById_perm (ts : List Track) : (sortById ts).Perm ts := by
  rw [sortById_eq]
  exact List.perm_insertionSort _ _

theorem sortById_pairwise (ts : List Track) : (sortById ts).Pairwise fun a b => a.id ≤ b.id := by
  have : Std.Total fun a b : Track => a.id ≤ b.id := ⟨fun a b => Nat.le_total a.id b.id⟩
  have : IsTrans Track fun a b => a.id ≤ b.id := ⟨fun _ _ _ => Nat.le_trans⟩
  rw [sortById_eq]
  exact List.pairwise_insertionSort _ _

/-! ### The run of entries a command names (R150, R151) -/

theorem tableOf_eq_none_iff (id : Nat) : tableOf id = none ↔ id = 0 ∨ 10 < id := by
  constructor
  · intro h
    by_contra hid
    obtain ⟨hlo, hhi⟩ : 1 ≤ id ∧ id ≤ 10 := by omega
    interval_cases id <;> cases h
  · rintro (rfl | h)
    · rfl
    · obtain ⟨n, rfl⟩ : ∃ n, id = n + 11 := ⟨id - 11, by omega⟩
      rfl

section
variable {c : Command} {id : Byte} {start count : Nat} {body : List Byte} (hs : start < 65536) (hn : count < 65536)
  (hc : c.payload = id :: (be 2 start ++ be 2 count ++ body))
include hc

theorem tableId_of_payload : field c.payload 0 1 = id.toNat := by
  rw [hc]; simp [field, ofBe]

include hs in
theorem loadStart_of_payload : loadStart c = start := by
  rw [loadStart, hc, List.append_assoc]
  exact (field_be (pre := [id]) rfl 2 start _).trans (Nat.mod_eq_of_lt hs)

include hn in
theorem loadCount_of_payload : loadCount c = count := by
  rw [loadCount, hc, be_two start]
  exact (field_be (pre := [id, byte (start / 256), byte start]) rfl 2 count body).trans (Nat.mod_eq_of_lt hn)

theorem runHeader_of_payload : c.payload.take 5 = id :: (be 2 start ++ be 2 count) := by
  rw [hc, be_two, be_two]; rfl

theorem runBody_of_payload : c.payload.drop 5 = body := by
  rw [hc, be_two, be_two]; rfl

include hs hn

/-- Steps 2 and 3 of R150 refuse a run: no such table, no entry, or past the table's end. -/
theorem tableRun_none (h : (id.toNat = 0 ∨ 10 < id.toNat ∨ count = 0) ∨
    ∃ t, tableOf id.toNat = some t ∧ tableEntries t < start + count) : tableRun c = none := by
  unfold tableRun
  rw [tableId_of_payload hc, loadCount_of_payload hn hc, loadStart_of_payload hs hc]
  split
  · next t ht =>
    rw [if_neg]
    rintro ⟨hne, hle⟩
    rcases h with (h | h | h) | ⟨u, hu, hlt⟩
    · rw [(tableOf_eq_none_iff _).mpr (.inl h)] at ht; cases ht
    · rw [(tableOf_eq_none_iff _).mpr (.inr h)] at ht; cases ht
    · exact hne h
    · rw [hu] at ht; cases ht; omega
  · rfl

theorem tableRun_some {t : TableId} (ht : tableOf id.toNat = some t) (hne : count ≠ 0)
    (hle : start + count ≤ tableEntries t) : tableRun c = some t := by
  unfold tableRun
  rw [tableId_of_payload hc, loadCount_of_payload hn hc, loadStart_of_payload hs hc, ht]
  exact if_pos ⟨hne, hle⟩

end

/-- Settles O18: the sorted tracks, the layout of one track byte by byte, and the run of READ_TABLE. -/
theorem readTracksAndTable : Obligations.ReadTracksAndTable := by
  refine ⟨fun tag s hfree => ?_, fun t d hd => ?_, fun tag id start count s hfree hs hn c hc => ?_⟩
  · exact ⟨sortById s.sky.tracks, sortById_perm _, sortById_pairwise _,
      exec_command .readTracks hfree (.inr rfl) rfl rfl (.inr rfl)⟩
  · simp only [Track.bytes, beOpt_eq, beSigned, be_two, be_four, List.cons_append, List.nil_append] at hd
    subst hd
    refine ⟨rfl, rfl, ?_, rfl, ofBe_two _, fun h hh => ?_, fun hh => ?_, ?_, ⟨_, rfl, t.flags.mask_bits⟩, ofBe_signed _, rfl, rfl,
      ofBe_two _⟩
    · rw [← TrackState.code_eq]; rfl
    · rw [hh]; exact ⟨rfl, ofBe_two _⟩
    · rw [hh]; rfl
    · rw [← LayerClass.code_eq]; rfl
  · have hpay : c.payload = id :: (be 2 start ++ be 2 count ++ []) := by rw [hc, List.append_nil]
    have hexec : exec (.readTable tag c.payload) s = .next { s with toPart := s.toPart.takeReadTable c } := by
      rw [exec_command .readTable hfree (.inr rfl) rfl rfl (.inr (by rw [hc, be_two, be_two]; rfl)), hc]
      rfl
    rw [hexec]
    refine ⟨fun hno => ?_, fun t ht => ⟨fun hlt => ?_, fun hne hle hlong => ?_, fun hne hle hfits => ?_⟩⟩
    · rw [Part.takeReadTable, tableRun_none hs hn hpay (.inl hno)]; rfl
    · rw [Part.takeReadTable, tableRun_none hs hn hpay (.inr ⟨t, ht, hlt⟩)]; rfl
    · rw [Part.takeReadTable, tableRun_some hs hn hpay ht hne hle]
      simp only [loadCount_of_payload hn hpay]
      rw [if_pos hlong]; rfl
    · rw [Part.takeReadTable, tableRun_some hs hn hpay ht hne hle]
      simp only [loadCount_of_payload hn hpay, loadStart_of_payload hs hpay]
      rw [if_neg (Nat.not_lt.mpr hfits), runHeader_of_payload hpay, hc]
      rfl

end Sys2Proof.Machine

/-! The ten tables (R150, R88): field checks, LOAD_TABLE, and the commands that wait for the engine (R89, R134). -/

namespace Sys2Proof.Machine

/-! ### Fields of an entry -/

theorem field_one (bs : List Byte) (i : Nat) (b : Byte) (h : bs[i]? = some b) : field bs i 1 = b.toNat := by
  obtain ⟨hi, hb⟩ := List.getElem?_eq_some_iff.mp h
  rw [field, List.drop_eq_getElem_cons hi, hb]
  simp [ofBe]

theorem field_two (bs : List Byte) (i : Nat) (a b : Byte) (ha : bs[i]? = some a) (hb : bs[i + 1]? = some b) :
    field bs i 2 = a.toNat * 256 + b.toNat := by
  obtain ⟨hi, ha⟩ := List.getElem?_eq_some_iff.mp ha
  obtain ⟨hj, hb⟩ := List.getElem?_eq_some_iff.mp hb
  rw [field, List.drop_eq_getElem_cons hi, List.drop_eq_getElem_cons hj, ha, hb]
  simp [ofBe]

theorem field_be_two {pre : List Byte} {i : Nat} (hpre : pre.length = i) {v : Nat} (hv : v < 65536) (post : List Byte) :
    field (pre ++ (be 2 v ++ post)) i 2 = v := (field_be hpre 2 v post).trans (Nat.mod_eq_of_lt hv)

/-- Settles O21: the fields of each entry read off its bytes. -/
theorem fieldChecksAreRanges : Obligations.FieldChecksAreRanges := by
  refine ⟨fun a b c => ?_, fun a b => ?_, fun a b c => ?_, fun tc th htc hth => ?_, fun a eRef eMax cap drain h1 h2 h3 h4 => ?_,
    fun a b c d => ?_, fun a => ?_, fun kind rep sort send auto shots lo hi h1 h2 h3 => ?_,
    fun mIn mOut fog ridge vv h1 h2 h3 => ?_, fun a b sh hits misses st => ?_⟩
  · rw [entryOk, field_two _ 0 a b rfl rfl, field_one _ 2 c rfl]
    simp [and_assoc]
  · rw [entryOk, field_two _ 0 a b rfl rfl]
    simp
  · rw [entryOk, field_one _ 2 c rfl]
    simp
  · have hfirst : field (be 4 tc ++ be 4 th) 0 4 = tc := (field_be (pre := []) rfl 4 tc (be 4 th)).trans (Nat.mod_eq_of_lt htc)
    have hsecond : field (be 4 tc ++ be 4 th) 4 4 = th := by
      have h := field_be (be_length 4 tc) 4 th []
      rw [List.append_nil] at h
      exact h.trans (Nat.mod_eq_of_lt hth)
    rw [entryOk, hfirst, hsecond]
    simp [and_assoc]
  · have href : field (a :: (be 2 eRef ++ be 2 eMax ++ be 3 cap ++ be 2 drain)) 1 2 = eRef := (ofBe_be 2 eRef).trans (Nat.mod_eq_of_lt h1)
    have hmax : field (a :: (be 2 eRef ++ be 2 eMax ++ be 3 cap ++ be 2 drain)) 3 2 = eMax := (ofBe_be 2 eMax).trans (Nat.mod_eq_of_lt h2)
    have hcap : field (a :: (be 2 eRef ++ be 2 eMax ++ be 3 cap ++ be 2 drain)) 5 3 = cap := (ofBe_be 3 cap).trans (Nat.mod_eq_of_lt h3)
    rw [entryOk, field_one _ 0 a rfl, href, hmax, hcap]
    simp [and_assoc]
  · rw [entryOk, field_one _ 3 d rfl]
    simp
  · rw [entryOk, field_one _ 0 a rfl]
    simp
  · have hshots : field (kind :: (be 2 shots ++ [rep, sort] ++ be 2 lo ++ be 2 hi ++ [send, auto])) 1 2 = shots :=
      (ofBe_be 2 shots).trans (Nat.mod_eq_of_lt h1)
    have hlo : field (kind :: (be 2 shots ++ [rep, sort] ++ be 2 lo ++ be 2 hi ++ [send, auto])) 5 2 = lo :=
      (ofBe_be 2 lo).trans (Nat.mod_eq_of_lt h2)
    have hhi : field (kind :: (be 2 shots ++ [rep, sort] ++ be 2 lo ++ be 2 hi ++ [send, auto])) 7 2 = hi :=
      (ofBe_be 2 hi).trans (Nat.mod_eq_of_lt h3)
    rw [entryOk, field_one _ 0 kind rfl, hshots, field_one _ 3 rep rfl, field_one _ 4 sort rfl, hlo, hhi, field_one _ 9 send rfl,
      field_one _ 10 auto rfl]
    simp only [byte_toNat_eq_one_iff, Bool.and_eq_true, Bool.not_eq_true', Bool.and_eq_false_iff, decide_eq_true_eq,
      decide_eq_false_iff_not, not_and_or, and_assoc]
  · have hfog : field ([mIn, mOut] ++ be 2 fog ++ be 2 ridge ++ be 5 vv) 2 2 = fog := (ofBe_be 2 fog).trans (Nat.mod_eq_of_lt h1)
    have hridge : field ([mIn, mOut] ++ be 2 fog ++ be 2 ridge ++ be 5 vv) 4 2 = ridge :=
      (ofBe_be 2 ridge).trans (Nat.mod_eq_of_lt h2)
    have hvv : field ([mIn, mOut] ++ be 2 fog ++ be 2 ridge ++ be 5 vv) 6 5 = vv := (ofBe_be 5 vv).trans (Nat.mod_eq_of_lt h3)
    rw [entryOk, hfog, hridge, hvv]
    simp [and_assoc]
  · rw [entryOk, field_one _ 2 sh rfl, field_one _ 3 hits rfl, field_one _ 4 misses rfl, field_one _ 5 st rfl]
    simp [and_assoc]

/-! ### LOAD_TABLE -/

theorem splitEntries_flatten (n : Nat) (es : List (List Byte)) (h : ∀ e ∈ es, e.length = n) :
    splitEntries n es.length es.flatten = es := by
  induction es with
  | nil => rfl
  | cons e rest ih =>
    have he : e.length = n := h e List.mem_cons_self
    rw [List.length_cons, splitEntries, List.flatten_cons, ← he, List.take_left' rfl, List.drop_left' rfl, he,
      ih fun x hx => h x (List.mem_cons_of_mem _ hx)]

theorem flatten_length (n : Nat) (es : List (List Byte)) (h : ∀ e ∈ es, e.length = n) : es.flatten.length = es.length * n := by
  rw [List.length_flatten, List.eq_replicate_of_mem (a := n) (l := es.map List.length) (by simpa using h), List.sum_replicate,
    List.length_map, smul_eq_mul]

/-- The first faulty entry names the refusal (R150). -/
theorem firstFaulty_of_faulty (t : TableId) (start : Nat) {es : List (List Byte)} {j : Nat} {e : List Byte} (hj : es[j]? = some e)
    (he : entryOk t e = false) (hbefore : ∀ x ∈ es.take j, entryOk t x = true) : firstFaulty t start es = some (start + j) := by
  induction es generalizing start j with
  | nil => cases hj
  | cons x rest ih =>
    cases j with
    | zero =>
      obtain rfl : x = e := by simpa using hj
      rw [firstFaulty, he, if_neg (by decide)]
      rfl
    | succ j =>
      have hx : entryOk t x = true := hbefore x (by simp)
      rw [firstFaulty, hx, if_pos rfl, ih (start + 1) (by simpa using hj) fun y hy => hbefore y (by simp [hy])]
      congr 1
      omega

theorem Part.atRest_iff (p : Part) :
    p.atRest = true ↔ (∀ k : Fin 4, p.runs[k].state = .idle) ∧ ∀ b : Fin 8, p.banks[b].state = .free := by
  simp only [Part.atRest, Bool.and_eq_true, List.all_eq_true, decide_eq_true_eq]
  refine and_congr ⟨fun h k => h _ (by simp), fun h r hr => ?_⟩ ⟨fun h b => h _ (by simp), fun h b hb => ?_⟩
  · obtain ⟨i, hi, rfl⟩ := List.mem_iff_getElem.mp hr
    exact h ⟨i, by simpa using hi⟩
  · obtain ⟨i, hi, rfl⟩ := List.mem_iff_getElem.mp hb
    exact h ⟨i, by simpa using hi⟩

theorem deferrable_iff (t : TableId) : deferrable t = true ↔ t = .corr ∨ t = .thresh ∨ t = .finder ∨ t = .tracker := by
  cases t <;> simp [deferrable]

/-- The state condition of a load (R22, R60). -/
theorem Part.loadBusy_iff (p : Part) {c : Command} {start count : Nat} (hs : loadStart c = start) (hn : loadCount c = count)
    (t : TableId) :
    p.loadBusy c t = true ↔
      (t = .camp ∧ ∃ k : Fin 4, start ≤ k.val ∧ k.val < start + count ∧ p.runs[k].state ≠ .idle) ∨
      ((t = .gate ∨ t = .bins) ∧ ((∃ k : Fin 4, p.runs[k].state ≠ .idle) ∨ ∃ b : Fin 8, p.banks[b].state ≠ .free)) := by
  have hrest : (!p.atRest) = true ↔ (∃ k : Fin 4, p.runs[k].state ≠ .idle) ∨ ∃ b : Fin 8, p.banks[b].state ≠ .free := by
    rw [Bool.not_eq_true', Bool.eq_false_iff, ne_eq, p.atRest_iff, not_and_or, not_forall, not_forall]
  subst hs hn
  cases t with
  | camp => simp [Part.loadBusy, and_assoc]
  | gate | bins => simpa [Part.loadBusy] using hrest
  | corr | thresh | head | cadence | arb | finder | tracker => simp [Part.loadBusy]

/-- Settles O22: the checks in their order, with the run, the entries and the state condition read off the payload. -/
theorem loadTableStores : Obligations.LoadTableStores := by
  refine ⟨?_, fun tag s hfree hready => ⟨fun pl hpl => ?_, fun id start count body c hs hn hc => ?_⟩⟩
  · rintro ts rfl
    refine ⟨rfl, rfl, fun id => ?_⟩
    by_cases hid : id ≤ 10
    · interval_cases id <;> rfl
    · rw [(tableOf_eq_none_iff id).mpr (by omega), if_neg (by omega), List.getElem?_eq_none]
      simp; omega
  · rw [exec_command .loadTable hfree (.inl hready) rfl rfl (.inl rfl), Part.carryOut, Part.takeLoadTable, if_pos hpl]
    rfl
  · have hpay : c.payload = id :: (be 2 start ++ be 2 count ++ body) := by rw [hc]
    have hlen : c.payload.length = 5 + body.length := by rw [hpay, be_two, be_two]; simp; omega
    have hexec : exec (.loadTable tag c.payload) s = .next { s with toPart := s.toPart.takeLoadTable c } := by
      rw [exec_command .loadTable hfree (.inl hready) rfl rfl (.inl rfl), hc]
      rfl
    have hstart := loadStart_of_payload hs hpay
    have hcount := loadCount_of_payload hn hpay
    rw [hexec, Part.takeLoadTable, if_neg (by omega)]
    refine ⟨fun hno => ?_, fun t ht => ⟨fun hlt => ?_, fun hne hle hsize => ?_, fun busy es hne hle hes hesn hbody hbusy => ?_⟩⟩
    · rw [tableRun_none hs hn hpay (.inl hno)]; rfl
    · rw [tableRun_none hs hn hpay (.inr ⟨t, ht, hlt⟩)]; rfl
    · rw [tableRun_some hs hn hpay ht hne hle]
      simp only [hlen, hcount]
      rw [if_pos (by omega)]; rfl
    · have hentries : loadEntries c t = es := by
        rw [loadEntries, hcount, runBody_of_payload hpay, hbody, ← hesn, splitEntries_flatten _ _ hes]
      have hsize : body.length = count * tableSize t := by rw [hbody, ← hesn, flatten_length _ _ hes]
      have hbusy' : s.loadBusy c t = busy := by
        rw [Bool.eq_iff_iff, hbusy]
        exact s.toPart.loadBusy_iff hstart hcount t
      rw [tableRun_some hs hn hpay ht hne hle]
      simp only [hlen, hcount, hsize, hbusy', hstart, hentries]
      rw [if_neg (by omega)]
      refine ⟨fun hb => ?_, fun j e hb hj he hbefore => ?_, fun hb hok hdef hhand => ?_, fun hb hok hdirect => ?_⟩
      · rw [hb, if_pos rfl]; rfl
      · rw [hb, if_neg (by decide), firstFaulty_of_faulty t start hj he hbefore]; rfl
      · rw [hb, if_neg (by decide), (firstFaulty_eq_none_iff t start es).mpr hok]
        simp only []
        rw [if_pos]
        rw [Bool.and_eq_true, deferrable_iff, Option.isSome_iff_ne_none]
        exact ⟨hdef, hhand⟩
      · rw [hb, if_neg (by decide), (firstFaulty_eq_none_iff t start es).mpr hok]
        simp only []
        rw [if_neg, Part.applyLoad, hstart, hentries, runHeader_of_payload hpay]
        · rfl
        · rw [Bool.and_eq_true, deferrable_iff, Option.isSome_iff_ne_none]
          rintro ⟨hdef, hhand⟩
          exact hdirect.elim hhand fun h => h hdef

/-! ### Commands that wait for the engine -/

theorem Part.takeTrackClear_idle {p : Part} {c : Command} (h : p.engine.inHand = none) :
    p.takeTrackClear c = p.clearTracks.answer c .ok [] := by
  rw [Part.takeTrackClear, h]; rfl

theorem Part.takeTrackClear_busy {p : Part} {c : Command} (h : p.engine.inHand ≠ none) :
    p.takeTrackClear c = { p with link := { p.link with held := some (.deferredClear c) } } := by
  rw [Part.takeTrackClear, if_pos (Option.isSome_iff_ne_none.mpr h)]

theorem Part.applyDeferred_other {p : Part} (hload : ∀ d t, p.link.held ≠ some (.deferredLoad d t))
    (hclear : ∀ d, p.link.held ≠ some (.deferredClear d)) : p.applyDeferred = p := by
  unfold Part.applyDeferred
  split
  · next h => exact absurd h (hload _ _)
  · next h => exact absurd h (hclear _)
  · rfl

/-- Settles O36: a held command meets applyDeferred at step 4 with its run and entries read off the payload. -/
theorem deferredCommands : Obligations.DeferredCommands := by
  refine ⟨fun tag s c hfree hready hc => ?_, fun s h t hh ht => ?_, fun p c => ⟨fun hheld => ?_, ?_, Part.applyDeferred_other⟩⟩
  · have hexec : exec (.trackClear tag []) s = .next { s with toPart := s.toPart.takeTrackClear c } := by
      rw [exec_command .trackClear hfree (.inl hready) rfl rfl (.inr rfl), hc]
      rfl
    rw [hexec]
    refine ⟨fun hi => ?_, fun hi => ?_⟩
    · rw [Part.takeTrackClear_idle hi]; rfl
    · rw [Part.takeTrackClear_busy hi]
  · show Host.Outcome.next { s with toPart := s.toPart.profileComplete } = _
    rw [Part.profileComplete, hh, ht]
    rfl
  · rw [Part.applyDeferred, hheld]; rfl
  · intro t id start count es hs hn hes hesn hpay hheld
    have hentries : loadEntries c t = es := by
      rw [loadEntries, loadCount_of_payload hn hpay, runBody_of_payload hpay, ← hesn, splitEntries_flatten _ _ hes]
    rw [Part.applyDeferred, hheld]
    simp only [Part.applyLoad]
    rw [loadStart_of_payload hs hpay, hentries, runHeader_of_payload hpay]

end Sys2Proof.Machine

/-! What a load stores (R150, R151): the entries read back byte for byte, and the effects beside them (R3, R19, R29, R60, R87). -/

namespace Sys2Proof.Machine

/-! ### A field read and written again -/

theorem be_field (e : List Byte) {i n : Nat} (h : i + n ≤ e.length) : be n (field e i n) = (e.drop i).take n := by
  have hlen : ((e.drop i).take n).length = n := by simp; omega
  have hb := be_ofBe ((e.drop i).take n)
  rwa [hlen] at hb

theorem byteOfBool_field (e : List Byte) (i : Nat) {b : Byte} (hb : e[i]? = some b) (h : field e i 1 ≤ 1) :
    byteOfBool (decide (field e i 1 = 1)) = b := by
  rw [field_one e i b hb] at h ⊢
  rcases Nat.le_one_iff_eq_zero_or_eq_one.mp h with h0 | h1
  · rw [h0]; exact (BitVec.eq_of_toNat_eq h0).symm
  · rw [h1]; exact (BitVec.eq_of_toNat_eq h1).symm

/-- The bytes of an entry as stored, which entryBytes reads back (R151). -/
def HeadRow.bytes (r : HeadRow) : List Byte := [byteOfBool r.allowed] ++ be 2 r.eRef ++ be 2 r.eMax ++ be 3 r.cap ++ be 2 r.drain

def CampEntry.bytes (e : CampEntry) : List Byte :=
  [e.settings.kind.code] ++ be 2 e.shots ++ [if e.repeats = .continuous then 1 else 0, byteOfBool e.settings.sort]
    ++ be 2 e.settings.sortLo ++ be 2 e.settings.sortHi ++ [byteOfBool e.settings.sendProfile, byteOfBool e.autostart]

section
variable {e : List Byte}

theorem gateOf_bytes (h : e.length = 3) : be 2 (gateOf e).s ++ be 1 (gateOf e).w = e := by
  rw [gateOf, be_field e (by omega), be_field e (by omega)]
  match e, h with
  | [_, _, _], _ => rfl

theorem corrOf_bytes (h : e.length = 3) : be 2 (corrOf e).m ++ be 1 (corrOf e).k = e := by
  rw [corrOf, be_field e (by omega), be_field e (by omega)]
  match e, h with
  | [_, _, _], _ => rfl

theorem threshOf_bytes (h : e.length = 8) : be 4 (threshOf e).tc ++ be 4 (threshOf e).th = e := by
  rw [threshOf, be_field e (by omega), be_field e (by omega)]
  match e, h with
  | [_, _, _, _, _, _, _, _], _ => rfl

theorem headRowOf_bytes (h : e.length = 10) (hok : entryOk .head e = true) : (headRowOf e).bytes = e := by
  simp only [entryOk, Bool.and_eq_true, decide_eq_true_eq] at hok
  obtain ⟨⟨⟨hallowed, -⟩, -⟩, -⟩ := hok
  rw [HeadRow.bytes, headRowOf, be_field e (by omega), be_field e (by omega), be_field e (by omega), be_field e (by omega)]
  match e, h with
  | [a, _, _, _, _, _, _, _, _, _], _ => rw [byteOfBool_field _ 0 rfl hallowed]; rfl

theorem campOf_bytes (h : e.length = 11) (hok : entryOk .camp e = true) : (campOf e).bytes = e := by
  simp only [entryOk, Bool.and_eq_true, decide_eq_true_eq] at hok
  obtain ⟨⟨⟨⟨⟨⟨⟨⟨hkind, -⟩, hrep⟩, hsort⟩, -⟩, -⟩, hsend⟩, hauto⟩, -⟩ := hok
  have hcode : (campOf e).settings.kind.code = byteOfBool (decide (field e 0 1 = 1)) := by
    rw [campOf]; split <;> simp [*, Kind.code, byteOfBool]
  have hrepeat : (if (campOf e).repeats = .continuous then 1 else 0) = byteOfBool (decide (field e 3 1 = 1)) := by
    rw [campOf]; split <;> simp [*, byteOfBool]
  rw [CampEntry.bytes, hcode, hrepeat, campOf, be_field e (by omega), be_field e (by omega), be_field e (by omega)]
  match e, h with
  | [_, _, _, _, _, _, _, _, _, _, _], _ =>
    rw [byteOfBool_field _ 0 rfl hkind, byteOfBool_field _ 3 rfl hrep, byteOfBool_field _ 4 rfl hsort, byteOfBool_field _ 9 rfl hsend,
      byteOfBool_field _ 10 rfl hauto]
    rfl

end

theorem bins_bytes {e : List Byte} (h : e.length = 2) : be 2 (field e 0 2) = e := by
  rw [be_field e (by omega), List.drop_zero, List.take_of_length_le (by omega)]

theorem arbModeOf_bytes {e : List Byte} (h : e.length = 1) (hok : entryOk .arb e = true) : [(arbModeOf e).code] = e := by
  simp only [entryOk, decide_eq_true_eq] at hok
  have hcode : (arbModeOf e).code = byteOfBool (decide (field e 0 1 = 1)) := by
    rw [arbModeOf]; split <;> simp [*, ArbMode.code, byteOfBool]
  match e, h with
  | [a], _ => rw [hcode, byteOfBool_field _ 0 rfl hok]

/-- A FINDER entry as stored, with its clamps (R99). -/
theorem finderOf_bytes (mIn mOut : Byte) {rest : List Byte} (h : rest.length = 9) :
    be 1 (finderOf (mIn :: mOut :: rest)).mIn ++ be 1 (finderOf (mIn :: mOut :: rest)).mOut
      ++ be 2 (finderOf (mIn :: mOut :: rest)).fogFloor ++ be 2 (finderOf (mIn :: mOut :: rest)).ridge
      ++ be 5 (finderOf (mIn :: mOut :: rest)).vvLimit =
      byte (max 1 (min 8 mIn.toNat)) :: byte (max 1 (min 8 mOut.toNat)) :: rest := by
  have hlen : (mIn :: mOut :: rest).length = 11 := by simp [h]
  rw [finderOf, field_one _ 0 mIn rfl, field_one _ 1 mOut rfl, be_field _ (by omega), be_field _ (by omega), be_field _ (by omega)]
  match rest, h with
  | [_, _, _, _, _, _, _, _, _], _ => rfl

/-- A TRACKER entry as stored, with its clamp (R120). -/
theorem trackerOf_bytes {gate : Nat} (hg : gate < 65536) {rest : List Byte} (h : rest.length = 4) :
    be 2 (trackerOf (be 2 gate ++ rest)).gate ++ be 1 (trackerOf (be 2 gate ++ rest)).shift
      ++ be 1 (trackerOf (be 2 gate ++ rest)).confirmHits ++ be 1 (trackerOf (be 2 gate ++ rest)).dropMisses
      ++ be 1 (trackerOf (be 2 gate ++ rest)).staleLimit = be 2 (max 10 (min 2000 gate)) ++ rest := by
  have hlen : (be 2 gate ++ rest).length = 6 := by simp [h]
  have hgate : field (be 2 gate ++ rest) 0 2 = gate := field_be_two (pre := []) rfl hg rest
  rw [trackerOf, hgate, be_field _ (by omega), be_field _ (by omega), be_field _ (by omega), be_field _ (by omega)]
  match rest, h with
  | [_, _, _, _], _ => rfl

/-! ### The entries of a table after a load -/

/-- Raising LASER_BLOCKED changes no table (R7, R151). -/
theorem Part.writeEntries_entryBytes (p : Part) (t : TableId) (start : Nat) (es : List (List Byte)) (u : TableId) (i : Nat) :
    (p.writeEntries t start es).entryBytes u i = (p.written t start es).entryBytes u i :=
  (p.writeEntries_like t start es).keeps (P := fun q => q.entryBytes u i = (p.written t start es).entryBytes u i) fun _ => by
    cases u <;> rfl

/-- A load leaves every other table as it is. -/
theorem Part.written_other (p : Part) {t u : TableId} (hu : u ≠ t) (start : Nat) (es : List (List Byte)) (i : Nat) :
    (p.written t start es).entryBytes u i = p.entryBytes u i := by
  cases t with
  | gate =>
    simp only [Part.written, Part.writeEntries, Part.gateLoaded_eq]
    cases u with
    | gate => exact absurd rfl hu
    | _ => rfl
  | bins =>
    simp only [Part.written, Part.writeEntries, Part.gateLoaded_eq]
    cases u with
    | bins => exact absurd rfl hu
    | _ => rfl
  | corr => cases u with
    | corr => exact absurd rfl hu
    | _ => rfl
  | thresh => cases u with
    | thresh => exact absurd rfl hu
    | _ => rfl
  | head => cases u with
    | head => exact absurd rfl hu
    | _ => rfl
  | cadence => cases u with
    | cadence => exact absurd rfl hu
    | _ => rfl
  | arb => cases u with
    | arb => exact absurd rfl hu
    | _ => rfl
  | camp => cases u with
    | camp => exact absurd rfl hu
    | _ => rfl
  | finder => cases u with
    | finder => exact absurd rfl hu
    | _ => rfl
  | tracker => cases u with
    | tracker => exact absurd rfl hu
    | _ => rfl

/-- The run of an accepted load is one entry of a table with one entry. -/
theorem singleton_of_run {es : List (List Byte)} {start n : Nat} (hne : es ≠ []) (h : start + es.length ≤ n) (hn : n = 1) :
    start = 0 ∧ ∃ e, es = [e] := by
  match es, hne with
  | [e], _ => exact ⟨by simp at h; omega, e, rfl⟩
  | _ :: _ :: _, _ => simp at h; omega

/-- Entry `i` of a table written as a run, or what it held before (R150). -/
theorem look_putRun_map {α : Type} {n : Nat} (v : Vector α n) (f : List Byte → α) {start : Nat} {es : List (List Byte)}
    (h : start + es.length ≤ n) (d : α) :
    (∀ j e, es[j]? = some e → look (putRun v start (es.map f)) (start + j) d = f e) ∧
    (∀ i, i < start ∨ start + es.length ≤ i → look (putRun v start (es.map f)) i d = look v i d) := by
  refine ⟨fun j e hj => ?_, fun i hi => ?_⟩
  · obtain ⟨hlt, -⟩ := List.getElem?_eq_some_iff.mp hj
    rw [look_putRun _ _ _ _ _ (by simpa using h), List.length_map, if_pos (by omega), Nat.add_sub_cancel_left, List.getD_eq_getElem?_getD,
      List.getElem?_map, hj]
    rfl
  · rw [look_putRun _ _ _ _ _ (by simpa using h), List.length_map, if_neg (by omega)]

/-- The entries of a load are read back from their places, and the others of the table stay (R150, R151). -/
theorem Part.written_entryBytes (p : Part) {t : TableId} {start : Nat} {es : List (List Byte)}
    (hok : ∀ e ∈ es, e.length = tableSize t ∧ entryOk t e = true) (hne : es ≠ []) (hle : start + es.length ≤ tableEntries t) :
    (∀ j e, es[j]? = some e → t ≠ .cadence → t ≠ .finder → t ≠ .tracker → (p.written t start es).entryBytes t (start + j) = e) ∧
    (∀ i, i < start ∨ start + es.length ≤ i → i < tableEntries t →
      (p.written t start es).entryBytes t i = p.entryBytes t i) := by
  have hmem : ∀ {j : Nat} {e : List Byte}, es[j]? = some e → e.length = tableSize t ∧ entryOk t e = true :=
    fun hj => hok _ (List.mem_of_getElem? hj)
  cases t with
  | gate =>
    obtain ⟨hin, hout⟩ := look_putRun_map p.gates.table gateOf hle { s := 0, w := 1 }
    simp only [Part.written, Part.writeEntries, Part.gateLoaded_eq, Part.entryBytes, Gates.entry]
    exact ⟨fun j e hj _ _ _ => by rw [hin j e hj]; exact gateOf_bytes (hmem hj).1, fun i hi _ => by rw [hout i hi]⟩
  | corr =>
    obtain ⟨hin, hout⟩ := look_putRun_map p.corr corrOf hle { m := 0, k := 0 }
    simp only [Part.written, Part.writeEntries, Part.entryBytes]
    exact ⟨fun j e hj _ _ _ => by rw [hin j e hj]; exact corrOf_bytes (hmem hj).1, fun i hi _ => by rw [hout i hi]⟩
  | thresh =>
    obtain ⟨hin, hout⟩ := look_putRun_map p.thresh threshOf hle { tc := 0, th := 0 }
    simp only [Part.written, Part.writeEntries, Part.entryBytes]
    exact ⟨fun j e hj _ _ _ => by rw [hin j e hj]; exact threshOf_bytes (hmem hj).1, fun i hi _ => by rw [hout i hi]⟩
  | head =>
    obtain ⟨hin, hout⟩ := look_putRun_map p.headTable headRowOf hle { allowed := false, eRef := 0, eMax := 0, cap := 0, drain := 0 }
    exact ⟨fun j e hj _ _ _ => (congrArg HeadRow.bytes (hin j e hj)).trans (headRowOf_bytes (hmem hj).1 (hmem hj).2),
      fun i hi _ => congrArg HeadRow.bytes (hout i hi)⟩
  | camp =>
    obtain ⟨hin, hout⟩ := look_putRun_map p.campTable campOf hle CampEntry.reset
    exact ⟨fun j e hj _ _ _ => (congrArg CampEntry.bytes (hin j e hj)).trans (campOf_bytes (hmem hj).1 (hmem hj).2),
      fun i hi _ => congrArg CampEntry.bytes (hout i hi)⟩
  | bins =>
    obtain ⟨rfl, x, rfl⟩ := singleton_of_run hne hle rfl
    refine ⟨fun j e hj _ _ _ => ?_, fun i hi hlt => absurd hlt (by simp [tableEntries] at hi ⊢; omega)⟩
    obtain ⟨rfl, rfl⟩ : j = 0 ∧ x = e := by simpa [List.getElem?_singleton] using hj
    simp only [Part.written, Part.writeEntries, Part.gateLoaded_eq]
    exact bins_bytes (hmem hj).1
  | arb =>
    obtain ⟨rfl, x, rfl⟩ := singleton_of_run hne hle rfl
    refine ⟨fun j e hj _ _ _ => ?_, fun i hi hlt => absurd hlt (by simp [tableEntries] at hi ⊢; omega)⟩
    obtain ⟨rfl, rfl⟩ : j = 0 ∧ x = e := by simpa [List.getElem?_singleton] using hj
    exact arbModeOf_bytes (hmem hj).1 (hmem hj).2
  | cadence | finder | tracker =>
    obtain ⟨rfl, x, rfl⟩ := singleton_of_run hne hle rfl
    exact ⟨fun j e _ h1 h2 h3 => by simp at h1 h2 h3, fun i hi hlt => absurd hlt (by simp [tableEntries] at hi ⊢; omega)⟩

/-! ### Entries stored with their clamps -/

theorem cadenceOf_eq (a b w r : Byte) {period : Nat} (hp : period = max 200 (a.toNat * 256 + b.toNat)) :
    cadenceOf [a, b, w, r] =
      { slotPeriod := period, fireWidth := max 1 (min (min 20 (period / 4)) w.toNat), run := decide (r = 1) } := by
  rw [cadenceOf, field_two _ 0 a b rfl rfl, field_one _ 2 w rfl, field_one _ 3 r rfl, ← hp]
  simp only [byte_toNat_eq_one_iff]
  rfl

theorem byteOfBool_one (r : Byte) (h : r.toNat ≤ 1) : byteOfBool (decide (r = 1)) = r := by
  have hr := byteOfBool_field [r] 0 rfl (by rwa [field_one _ 0 r rfl])
  rw [field_one _ 0 r rfl] at hr
  simpa only [byte_toNat_eq_one_iff] using hr

/-- Settles O23: the runs by look_putRun_map, the single entries by their clamps. -/
theorem storedEntriesReadBack : Obligations.StoredEntriesReadBack := by
  intro p t start es hok hne hle
  obtain ⟨hin, hout⟩ := p.written_entryBytes hok hne hle
  simp only [Part.writeEntries_entryBytes]
  refine ⟨hin, hout, fun u i hu => p.written_other hu start es i, ?_, ?_, ?_⟩
  · rintro a b w r rfl rfl period hp
    have hr : r.toNat ≤ 1 := by
      have := (hok _ List.mem_cons_self).2
      rwa [entryOk, field_one _ 3 r rfl, decide_eq_true_eq] at this
    have hc := cadenceOf_eq a b w r hp
    have hstored : (p.written .cadence start [[a, b, w, r]]).cadence = cadenceOf [a, b, w, r] := rfl
    refine ⟨hc, ?_⟩
    rw [Part.entryBytes, hstored, hc]
    simp only [byteOfBool_one r hr]
    rfl
  · rintro mIn mOut rest rfl rfl
    have hlen : rest.length = 9 := by
      have := (hok _ List.mem_cons_self).1
      simpa [tableSize] using this
    exact finderOf_bytes mIn mOut hlen
  · rintro gate rest rfl hgate rfl
    have hlen : rest.length = 4 := by
      have := (hok _ List.mem_cons_self).1
      simp [tableSize] at this
      omega
    exact trackerOf_bytes hgate hlen

/-! ### The effects of a load beside its entries -/

/-- Settles O24: the effects of GATE and BINS by gateLoaded_eq, of HEAD by the cause set. -/
theorem loadSideEffects : Obligations.LoadSideEffects := by
  intro p start es
  refine ⟨fun t ht => ?_, fun a b w r hes period hp => ?_, rfl, rfl, ?_⟩
  · rcases ht with rfl | rfl
    · rw [Part.writeEntries, Part.gateLoaded_eq]; exact ⟨rfl, rfl, rfl, rfl⟩
    · rw [Part.writeEntries, Part.gateLoaded_eq]; exact ⟨rfl, rfl, rfl, rfl⟩
  · have hgen : (p.writeEntries .cadence start es).gen = p.gen.onRun (decide (r = 1)) period := by
      subst hes
      show p.gen.onRun (cadenceOf [a, b, w, r]).run (cadenceOf [a, b, w, r]).slotPeriod = _
      rw [cadenceOf_eq a b w r hp]
    rw [hgen]
    by_cases hr : r = 1
    · rw [decide_eq_true hr, if_pos hr]
      exact ⟨fun hg => by rw [hg]; rfl, fun n hg => by rw [hg, if_pos hr]; rfl, fun n hg => by rw [hg, if_pos hr]; rfl⟩
    · rw [decide_eq_false hr, if_neg hr]
      exact ⟨fun hg => by rw [hg]; rfl, fun n hg => by rw [hg, if_neg hr]; rfl, fun n hg => by rw [hg, if_neg hr]; rfl⟩
  · show (Part.causeEdge p { p with headTable := putRun p.headTable start (es.map headRowOf) }).status.flags =
      if p.permitted = true ∧
        (Part.causeEdge p { p with headTable := putRun p.headTable start (es.map headRowOf) }).permitted = false
      then p.status.flags ||| Flag.laserBlocked.mask else p.status.flags
    generalize hq : ({ p with headTable := putRun p.headTable start (es.map headRowOf) } : Part) = q
    have hflags : q.status.flags = p.status.flags := by rw [← hq]
    unfold Part.causeEdge
    cases hp : p.permitted <;> cases hn : q.permitted <;> simp [hn, hflags]

end Sys2Proof.Machine

/-! The station link (R138 to R146, R152 to R154): the receiver state by state, the queueing and taking of commands, and the end
of a frame. -/

namespace Sys2Proof.Machine

/-! ### The receiver -/

theorem LinkRx.inFrame_iff (rx : LinkRx) : rx.inFrame = true ↔ rx ≠ .startWait ∧ rx ≠ .hunt := by
  cases rx <;> simp [LinkRx.inFrame]

theorem exec_byte (s : State) (v : Byte) : exec (.byteEvent (.good v)) s = .next { s with toPart := s.toPart.goodByte v } := rfl

theorem exec_framing (s : State) :
    exec (.byteEvent .framingError) s =
      .next { s with toPart := if s.link.rx.inFrame then s.toPart.abandonFrame .framing else s.toPart } := rfl

theorem exec_gap (s : State) :
    exec .gapTimeout s = .next { s with toPart := if s.link.rx.inFrame then s.toPart.abandonFrame .gap else s.toPart } := rfl

theorem exec_startWaitEnd (s : State) :
    exec .startWaitEnd s =
      .next { s with toPart := if s.link.rx = .startWait then s.toPart.setLinkRx .hunt else s.toPart } := rfl

theorem Part.acceptFrame_outbound {p : Part} {c : Command} (h : isOutbound c.kind = true) :
    p.acceptFrame c = p.linkError .outboundKind := by
  rw [Part.acceptFrame, if_pos h]

theorem Part.acceptFrame_inbound {p : Part} {c : Command} (h : isOutbound c.kind = false) : p.acceptFrame c = p.enqueue c := by
  rw [Part.acceptFrame, if_neg (by simp [h])]

/-- Settles O53, state by state of the receiver. -/
theorem receiverStates : Obligations.ReceiverStates := by
  intro s v goes abandons hgoes habandons
  have hgo : ∀ rx, Host.Outcome.next { s with toPart := s.toPart.setLinkRx rx } =
      (Host.Outcome.next (goes rx) : Host.Outcome State Fault Refusal) := fun rx => by rw [hgoes]; rfl
  have habandon : ∀ e, Host.Outcome.next { s with toPart := s.toPart.abandonFrame e } =
      (Host.Outcome.next (abandons e) : Host.Outcome State Fault Refusal) := fun e => by rw [habandons]; rfl
  refine ⟨fun h => ?_, fun h => ?_, fun h => ?_, fun h1 h2 => ?_, fun crc h => ?_, fun x crc len h hlen => ⟨fun hlo hhi => ?_, fun hbad => ?_⟩,
    fun len got crc h => ⟨fun hlt => ?_, fun hle => ?_⟩, fun got crc h => ?_, fun got x crc h hne => ?_,
    fun kind tag x payload crc h heq => ⟨fun hout => ?_, fun q hin hq => ?_⟩⟩
  · rw [exec_byte, exec_framing, exec_gap, exec_startWaitEnd, Part.goodByte, h]
    exact ⟨rfl, rfl, rfl, hgo _⟩
  · rw [exec_startWaitEnd, if_neg h]
  · rw [exec_byte, exec_framing, exec_gap, Part.goodByte, h]
    refine ⟨?_, rfl, rfl⟩
    simp only []
    split
    · next hv => rw [if_pos (by exact hv)]; exact hgo _
    · next hv => rw [if_neg (by exact hv)]
  · rw [exec_framing, exec_gap, if_pos ((LinkRx.inFrame_iff _).mpr ⟨h1, h2⟩), if_pos ((LinkRx.inFrame_iff _).mpr ⟨h1, h2⟩)]
    exact ⟨habandon _, habandon _⟩
  · rw [exec_byte, Part.goodByte, h]
    exact hgo _
  · rw [exec_byte, Part.goodByte, h]
    simp only [Part.judgeLength, ← hlen]
    rw [if_pos ⟨hlo, hhi⟩]
    exact hgo _
  · rw [exec_byte, Part.goodByte, h]
    simp only [Part.judgeLength, ← hlen]
    rw [if_neg (by omega)]
    exact habandon _
  · rw [exec_byte, Part.goodByte, h]
    simp only []
    rw [if_neg (by omega)]
    exact hgo _
  · rw [exec_byte, Part.goodByte, h]
    simp only []
    rw [if_pos hle]
    exact hgo _
  · rw [exec_byte, Part.goodByte, h]
    exact hgo _
  · rw [exec_byte, Part.goodByte, h]
    simp only [Part.completeFrame]
    rw [if_neg hne]
    exact habandon _
  · rw [exec_byte, Part.goodByte, h]
    simp only [Part.completeFrame]
    rw [if_pos heq, Part.acceptFrame_outbound ((isOutbound_iff kind).mpr hout)]
    exact habandon _
  · have hkind : isOutbound kind = false := by rwa [Bool.eq_false_iff, ne_eq, isOutbound_iff]
    rw [exec_byte, Part.goodByte, h]
    simp only [Part.completeFrame]
    rw [if_pos heq, Part.acceptFrame_inbound (by exact hkind), hq]
    rfl

/-! ### Queueing and taking -/

theorem commandOfKind_eq_none_iff (kind : Byte) : commandOfKind kind = none ↔ kind.toNat = 0 ∨ 0x16 < kind.toNat := by
  revert kind
  decide +kernel

/-- The commands taken in LOADING, by KIND (R146). -/
theorem takenInLoading_iff {kind : Byte} {k : CommandKind} (h : commandOfKind kind = some k) :
    takenInLoading k = true ↔ kind.toNat ∈ [0x01, 0x02, 0x03, 0x04, 0x07, 0x0C, 0x10, 0x12] := by
  have hall : ∀ kind : Byte, (commandOfKind kind).all
      (fun k => takenInLoading k == decide (kind.toNat ∈ [0x01, 0x02, 0x03, 0x04, 0x07, 0x0C, 0x10, 0x12])) = true := by
    decide +kernel
  have hk := hall kind
  rw [h, Option.all_some, beq_iff_eq] at hk
  rw [hk, decide_eq_true_eq]

/-- The KIND and the payload length of the commands of fixed length (R172). -/
def fixedLengths : List (Nat × Nat) :=
  [(0x02, 0), (0x03, 2), (0x04, 3), (0x05, 0), (0x07, 5), (0x08, 1), (0x09, 1), (0x0A, 1), (0x0B, 1), (0x0C, 1), (0x0D, 0),
    (0x0E, 0), (0x0F, 0), (0x10, 0), (0x11, 0), (0x12, 0), (0x13, 4), (0x15, 2), (0x16, 0)]

theorem fixedLength_of_kind {kind : Byte} {n : Nat} (hn : (kind.toNat, n) ∈ fixedLengths) :
    ∃ k, commandOfKind kind = some k ∧ fixedLength k = some n := by
  have hall : ∀ x ∈ fixedLengths, (commandOfKind (byte x.1)).any (fun k => fixedLength k == some x.2) = true := by decide +kernel
  have hk := hall _ hn
  rw [byte_of_toNat, Option.any_eq_true] at hk
  obtain ⟨k, hk, hlen⟩ := hk
  exact ⟨k, hk, beq_iff_eq.mp hlen⟩

section
variable {p : Part} {c : Command}

theorem Part.perform_badKind (h : commandOfKind c.kind = none) : p.perform c = p.answer c .badKind [] := by
  simp only [Part.perform, Part.judgeCommand, h]

theorem Part.perform_notReady {k : CommandKind} (h : commandOfKind c.kind = some k) (hp : p.partState = .loading)
    (hk : takenInLoading k = false) : p.perform c = p.answer c .notReady [] := by
  simp only [Part.perform, Part.judgeCommand, h, hp, hk, and_self, if_true]

theorem Part.perform_badLength {k : CommandKind} {n : Nat} (h : commandOfKind c.kind = some k)
    (hr : p.partState = .ready ∨ takenInLoading k = true) (hn : fixedLength k = some n) (hlen : c.payload.length ≠ n) :
    p.perform c = p.answer c .badParam [] := by
  simp only [Part.perform, Part.judgeCommand, h, hn, if_neg hlen]
  rw [if_neg]
  rintro ⟨hl, hk⟩
  rcases hr with hr | hr
  · rw [hr] at hl; cases hl
  · rw [hr] at hk; cases hk

end

theorem Part.partState_loading {p : Part} (h : p.boot ≠ .ready) : p.partState = .loading := by
  unfold Part.partState
  split
  · next hb => exact absurd hb h
  · rfl

/-- The unit that may not take a command takes none (R145). -/
theorem Part.takeCommands_none {p : Part} (h : p.link.commands = [] ∨ p.link.held ≠ none ∨ 4 ≤ p.link.replies.length) :
    p.takeCommands = p := by
  unfold Part.takeCommands
  cases hc : p.link.commands with
  | nil => rfl
  | cons c rest =>
    have hbusy : p.link.unitFree = false := by
      rw [Bool.eq_false_iff, ne_eq, Link.unitFree_iff]
      rintro ⟨hh, hr⟩
      rcases h with h | h | h
      · rw [hc] at h; cases h
      · exact h hh
      · omega
    rw [List.length_cons, Part.drain, hc]
    simp only [hbusy]
    rfl

/-- A unit that may take a command takes the oldest, and goes on (R145). -/
theorem Part.takeCommands_cons {p : Part} {c : Command} {rest : List Command} (hc : p.link.commands = c :: rest)
    (hh : p.link.held = none) (hr : p.link.replies.length < 4) :
    p.takeCommands = (Part.perform { p with link := { p.link with commands := rest } } c).takeCommands := by
  have hrest := (Part.perform_takesOne (p := { p with link := { p.link with commands := rest } }) c hh).1
  rw [Part.takeCommands, Part.takeCommands, hrest, hc, List.length_cons, Part.drain, hc]
  simp only [(Link.unitFree_iff p.link).mpr ⟨hh, hr⟩, if_true]

/-- Settles O54: the row delivers its command, which a full queue drops, a busy unit leaves waiting and a free one judges. -/
theorem commandsQueuedOrRefused : Obligations.CommandsQueuedOrRefused := by
  refine ⟨fun i c s hi => ⟨fun hout => ?_, fun hin => ?_⟩, fun p => ⟨Part.takeCommands_none, fun c rest => Part.takeCommands_cons⟩⟩
  · rw [exec_of_commandOfRow hi, Part.acceptFrame_outbound ((isOutbound_iff _).mpr hout)]
    rfl
  · have hexec : exec i s = .next { s with toPart := s.toPart.enqueue c } := by
      rw [exec_of_commandOfRow hi, Part.acceptFrame_inbound (by rwa [Bool.eq_false_iff, ne_eq, isOutbound_iff])]
    rw [hexec]
    refine ⟨fun hfull => ?_, fun hroom hbusy => ?_, fun hfree => ?_⟩
    · rw [Part.enqueue_full hfull]
    · rw [Part.enqueue_busy _ hroom]
      rw [Bool.eq_false_iff, ne_eq, Link.unitFree_iff]
      rintro ⟨hh, hr⟩
      exact hbusy.elim (fun h => h hh) (by omega)
    · rw [Part.enqueue_free hfree]
      refine ⟨fun hkind => ?_, fun hlo hhi hboot hlist => ?_, fun n hready hn hlen => ?_⟩
      · rw [Part.perform_badKind ((commandOfKind_eq_none_iff _).mpr hkind)]; rfl
      · obtain ⟨k, hk⟩ := Option.ne_none_iff_exists'.mp fun h => by
          have := (commandOfKind_eq_none_iff c.kind).mp h; omega
        rw [Part.perform_notReady hk (Part.partState_loading hboot)
          (Bool.eq_false_iff.mpr fun h => hlist ((takenInLoading_iff hk).mp h))]
        rfl
      · obtain ⟨k, hk, hfixed⟩ := fixedLength_of_kind hn
        rw [Part.perform_badLength hk (hready.imp Part.partState_ready (takenInLoading_iff hk).mpr) hfixed hlen]
        rfl

/-! ### The end of a frame -/

/-- Settles O56: the frame boundary leaves the slot to beginFrame, which takes the first source in order. -/
theorem endOfFramePrecedence : Obligations.EndOfFramePrecedence := by
  intro s
  have hexec : exec .endOfFrame s = .next { s with toPart := s.toPart.endFrame } := rfl
  refine ⟨fun hidle => ?_, fun f q t hf hq ht => ?_⟩
  · rw [hexec, Part.endFrame, hidle]
  · have hboundary : s.toPart.frameBoundary f = q.beginFrame := by
      have hsent : ({ s.toPart.slotSent f with link := { s.link with sending := none } } : Part) = q := by
        rw [hq, Part.slotSent]
        by_cases hk : f.kind = profileKind
        · rw [if_pos hk, if_pos (by exact hk)]
        · rw [if_neg hk, if_neg (by exact hk)]
      rw [Part.frameBoundary, hsent, Part.kick_idle q (by rw [hq])]
    have hbegin : q.beginFrame = t := by
      subst hq
      rcases ht with ⟨r, rest, hr, rfl⟩ | ⟨hr, hp, rfl⟩ | ⟨hr, hp, r, rest, hrep, rfl⟩ | ⟨hr, hp, hrep, pr, hslot, rfl⟩ |
        ⟨hr, hp, hrep, hslot, rfl⟩
      · simp only [Part.beginFrame, hr]; rfl
      · simp only [Part.beginFrame, hr, if_pos hp]; rfl
      · simp only [Part.beginFrame, hr, hp, hrep]; rfl
      · dsimp only at hslot
        simp only [Part.beginFrame, hr, hp, hrep, hslot]; rfl
      · dsimp only at hslot
        simp only [Part.beginFrame, hr, hp, hrep]
        rw [if_neg (by simp)]
    rw [hexec, s.toPart.endFrame_eq hf, hboundary, hbegin]

end Sys2Proof.Machine

/-! The store commands and the store's transactions (R161 to R164). -/

namespace Sys2Proof.Machine

/-! ### Store commands held or refused -/

/-- Settles O57: each refusal by its branch, the fields of a command read off its payload. -/
theorem storeCommandsHeld : Obligations.StoreCommandsHeld := by
  refine ⟨fun tag addr count s hfree hready haddr hcount => ⟨?_, fun pl hpl => ?_, ?_, ?_⟩, fun p tag addr count data hp => ?_,
    fun t => ⟨rfl, rfl, rfl, rfl⟩⟩
  · rintro c rfl
    have hexec : exec (.storeRead tag (be 2 addr ++ be 2 count)) s =
        .next { s with toPart := s.toPart.takeStoreRead { kind := 0x13, tag := tag, payload := be 2 addr ++ be 2 count } } :=
      exec_command .storeRead hfree (.inl hready) rfl rfl (.inr rfl)
    have haddr' : field (be 2 addr ++ be 2 count) 0 2 = addr := field_be_two (pre := []) rfl haddr _
    have hcount' : field (be 2 addr ++ be 2 count) 2 2 = count := by
      have h := field_be_two (be_length 2 addr) hcount []
      rwa [List.append_nil] at h
    rw [hexec]
    simp only [Part.takeStoreRead, haddr', hcount', Config.storeSize]
    refine ⟨fun h => ?_, fun h1 h2 h3 => ?_, fun h1 h2 h3 => ?_⟩
    · rw [if_pos h]; rfl
    · rw [if_neg (by omega), if_pos h3]; rfl
    · rw [if_neg (by omega), if_neg (Nat.not_lt.mpr h3)]; rfl
  · have hexec : exec (.storeWrite tag pl) s = .next { s with toPart := s.toPart.takeStoreWrite { kind := 0x14, tag := tag, payload := pl } } :=
      exec_command .storeWrite hfree (.inl hready) rfl rfl (.inl rfl)
    rw [hexec, Part.takeStoreWrite, if_pos hpl]
    rfl
  · rintro data c rfl h1 h2
    have hexec : exec (.storeWrite tag (be 2 addr ++ data)) s =
        .next { s with toPart := s.toPart.takeStoreWrite { kind := 0x14, tag := tag, payload := be 2 addr ++ data } } :=
      exec_command .storeWrite hfree (.inl hready) rfl rfl (.inl rfl)
    have haddr' : field (be 2 addr ++ data) 0 2 = addr := field_be_two (pre := []) rfl haddr _
    have hdata : (be 2 addr ++ data).drop 2 = data := rfl
    have hlen : ¬ ((be 2 addr ++ data).length < 3 ∨ 258 < (be 2 addr ++ data).length) := by
      rw [List.length_append, be_length]
      omega
    rw [hexec, Part.takeStoreWrite, if_neg hlen]
    simp only [haddr', hdata, Config.pageSize]
    refine ⟨fun h => ?_, fun h => ?_⟩
    · rw [if_pos h]; rfl
    · rw [if_neg (Nat.not_lt.mpr h)]; rfl
  · rintro c rfl
    have hexec : exec (.storeErase tag (be 2 addr)) s =
        .next { s with toPart := s.toPart.takeStoreErase { kind := 0x15, tag := tag, payload := be 2 addr } } :=
      exec_command .storeErase hfree (.inl hready) rfl rfl (.inr rfl)
    have haddr' : field (be 2 addr) 0 2 = addr := (ofBe_be 2 addr).trans (Nat.mod_eq_of_lt haddr)
    rw [hexec]
    simp only [Part.takeStoreErase, haddr', Config.sectorSize]
    refine ⟨fun h => ?_, fun h => ?_⟩
    · rw [if_pos h]; rfl
    · rw [if_neg (not_not.mpr h)]; rfl
  · have hstage : p.boot.stage = none := by rw [hp]; rfl
    simp only [Part.storeOperation, hstage]
    refine ⟨fun h => ?_, fun h => ?_, fun h => ?_, fun h => ?_, rfl, rfl, rfl⟩ <;> rw [h]

/-! ### What the controller receives -/

theorem Store.not_answers_of_missing {st : Store} (h : st.ident = 0xFFFFFF) : st.answers = false :=
  st.answers_of_missing (st.missing_iff.mpr h)

theorem Store.not_answers_of_shorted {st : Store} (h : st.ident = 0) : st.answers = false := by
  simp [Store.answers, identAnswers, h]

theorem Store.not_missing {st : Store} (h : st.ident ≠ 0xFFFFFF) : st.missing = false := by
  simpa [Store.missing] using h

/-- A byte of a data read (R161, R162, log 9). -/
theorem Store.readByte_eq (st : Store) (n a : Nat) :
    st.readByte n a = if st.ident = 0xFFFFFF then 0xFF else if st.ident = 0 then 0x00
      else if st.busy then Config.busyStoreByte n else cellAt st.cells a := by
  by_cases hm : st.ident = 0xFFFFFF
  · simp [Store.readByte, Store.not_answers_of_missing hm, st.missing_iff.mpr hm, hm]
  · by_cases h0 : st.ident = 0
    · simp [Store.readByte, Store.not_answers_of_shorted h0, Store.not_missing hm, h0]
    · rw [if_neg hm, if_neg h0, Store.readByte, if_pos (st.answers_iff.mpr ⟨h0, hm⟩)]

/-- Every byte received from a store that is not present is the level of the line. -/
theorem Store.reply_absent {st : Store} (n : Nat) {v : Byte} (hv : ∀ k a, st.readByte k a = v) (hs : st.statusByte n = v)
    (hi : be 3 (st.identBytes n).toNat = List.replicate 3 v) (t : Transaction) : st.reply n t = List.replicate t.receives v := by
  cases t with
  | identification => exact hi
  | statusRead => rw [Store.reply, hs]; rfl
  | dataRead addr count => simp [Store.reply, hv, Transaction.receives]
  | writeEnable => rfl
  | pageProgram addr data => rfl
  | sectorErase addr => rfl

theorem Store.reply_missing {st : Store} (h : st.ident = 0xFFFFFF) (n : Nat) (t : Transaction) :
    st.reply n t = List.replicate t.receives 0xFF := by
  have ha := Store.not_answers_of_missing h
  refine Store.reply_absent n (fun k a => by rw [Store.readByte_eq, if_pos h]) ?_ ?_ t
  · simp [Store.statusByte, ha, st.missing_iff.mpr h]
  · rw [Store.identBytes, ha, h, if_neg (by simp)]
    decide

theorem Store.reply_shorted {st : Store} (h : st.ident = 0) (n : Nat) (t : Transaction) :
    st.reply n t = List.replicate t.receives 0x00 := by
  have ha := Store.not_answers_of_shorted h
  have hm : st.ident ≠ 0xFFFFFF := by rw [h]; decide
  refine Store.reply_absent n (fun k a => by rw [Store.readByte_eq, if_neg hm, if_pos h]) ?_ ?_ t
  · simp [Store.statusByte, ha, Store.not_missing hm]
  · rw [Store.identBytes, ha, h, if_neg (by simp)]
    decide

theorem Store.ofBe_identBytes (st : Store) (n : Nat) : ofBe (be 3 (st.identBytes n).toNat) = (st.identBytes n).toNat :=
  (ofBe_be 3 _).trans (Nat.mod_eq_of_lt (st.identBytes n).isLt)

/-! ### The ends of the store operations -/

/-- What a timeout leaves in the store (R163, log 10). -/
theorem Store.timedOut_eq (st : Store) (n : Nat) (t : Transaction) (phase : StorePhase) :
    st.timedOut n t phase = if st.ident = 0xFFFFFF ∨ st.ident = 0 then st else match phase with
      | .busyWait => { st with busy := true }
      | .writeEnable => { st with busy := false }
      | .program | .completion => { st with busy := true, cells := t.cutCells st.cells n } := by
  by_cases h : st.ident = 0xFFFFFF ∨ st.ident = 0
  · have ha : st.answers = false := h.elim Store.not_answers_of_missing Store.not_answers_of_shorted
    rw [if_pos h]
    unfold Store.timedOut
    rw [if_neg (by rw [ha]; decide)]
  · have ha : st.answers = true := st.answers_iff.mpr ⟨fun h0 => h (.inr h0), fun hm => h (.inl hm)⟩
    rw [if_neg h]
    unfold Store.timedOut
    rw [if_pos ha]
    cases phase <;> rfl

/-- A whole write or erase ends in any store but a missing one (R163, log 11). -/
theorem Store.completes {st : Store} (h : st.ident ≠ 0xFFFFFF) : ¬ st.idle.reportsBusy = true := by
  rw [Store.idle_reportsBusy, Store.not_missing h]
  decide

/-- Settles O58: what a store sends by its identification, the ends of the operations by the held command. -/
theorem storeOperationsEnd : Obligations.StoreOperationsEnd := by
  refine ⟨fun addr count data => ⟨rfl, rfl, rfl, rfl, rfl, rfl⟩, fun st n => ⟨st.reply_length n, fun h => Store.reply_missing h n,
    fun h => Store.reply_shorted h n, fun hm h0 => ?_⟩, fun s q ends hq hends => ?_⟩
  · have ha : st.answers = true := st.answers_iff.mpr ⟨h0, hm⟩
    refine ⟨⟨st.statusByte n, rfl, ?_⟩, ?_⟩
    · rw [Store.statusByte_busy, Store.reportsBusy, if_pos ha]
    · rw [Store.reply, Store.ofBe_identBytes, Store.identBytes, ha, Bool.true_and]
  · subst hq
    refine ⟨fun tag addr count bytes hheld hbytes => ?_, fun tag addr data hheld => ⟨fun hm h0 => ?_, fun hm hnone => ?_,
      fun phase st hst => ?_⟩, fun tag addr hheld => ⟨fun hm h0 => ?_, fun phase st hst => ?_⟩⟩
    · have hread : s.toPart.readBytes addr count = bytes := by
        rw [hbytes]
        exact List.map_congr_left fun j _ => s.store.readByte_eq _ _
      have hend : exec .storeReadComplete s = .next { s with toPart := s.toPart.endStoreRead.takeCommands } := rfl
      rw [hends, hend, Part.endStoreRead, hheld]
      simp only [hread]
      rfl
    · have hend : exec .storeWriteComplete s = .next { s with toPart := s.toPart.endStoreWrite.takeCommands } := rfl
      rw [hends, hend, Part.endStoreWrite, hheld]
      simp only [if_neg (Store.completes hm), Store.completed_program, s.store.answers_iff.mpr ⟨h0, hm⟩]
      rfl
    · have hbusy : s.store.idle.reportsBusy = true := by rw [Store.idle_reportsBusy, s.store.missing_iff.mpr hm]
      have hend : exec .storeWriteComplete s = .next { s with toPart := s.toPart.endStoreWrite.takeCommands } := rfl
      have hsame : s.toPart.endStoreWrite = s.toPart := by
        rw [Part.endStoreWrite, hheld]
        exact if_pos hbusy
      rw [hend, hsame, Part.takeCommands_none (.inl hnone)]
    · have hend : exec (.storeWriteTimeout phase) s = .next { s with toPart := (s.toPart.timeoutStoreWrite phase).takeCommands } := rfl
      have hstore : s.store.timedOut s.free (.pageProgram addr data) phase = st := by
        rw [hst, Store.timedOut_eq]
        cases phase <;> rfl
      rw [hends, hend, Part.timeoutStoreWrite, hheld]
      simp only [hstore]
      rfl
    · have hend : exec .storeEraseComplete s = .next { s with toPart := s.toPart.endStoreErase.takeCommands } := rfl
      rw [hends, hend, Part.endStoreErase, hheld]
      simp only [if_neg (Store.completes hm), Store.completed_erase, s.store.answers_iff.mpr ⟨h0, hm⟩]
      rfl
    · have hend : exec (.storeEraseTimeout phase) s = .next { s with toPart := (s.toPart.timeoutStoreErase phase).takeCommands } := rfl
      have hstore : s.store.timedOut s.free (.sectorErase addr) phase = st := by
        rw [hst, Store.timedOut_eq]
        cases phase <;> rfl
      rw [hends, hend, Part.timeoutStoreErase, hheld]
      simp only [hstore]
      rfl

end Sys2Proof.Machine

/-! The loader (R165 to R170). -/

namespace Sys2Proof.Machine

/-! ### The image as the loader reads it -/

theorem Part.imageBytes_eq (p : Part) (a n : Nat) : p.imageBytes a n = (List.range n).map fun j => p.imageByte (a + j) :=
  List.map_congr_left fun j _ => by rw [Part.imageByte, Nat.add_assoc]

/-- A byte of the header of a burst. -/
theorem Part.imageBytes_get (p : Part) (a : Nat) {n i : Nat} (h : i < n) : (p.imageBytes a n)[i]? = some (p.imageByte (a + i)) := by
  simp [Part.imageBytes_eq, List.getElem?_range h]

/-- Entries cut from a run of bytes given by their addresses. -/
theorem splitEntries_range (f : Nat → Byte) (size count : Nat) :
    splitEntries size count ((List.range (count * size)).map f) =
      (List.range count).map fun j => (List.range size).map fun i => f (j * size + i) := by
  induction count generalizing f with
  | zero => rfl
  | succ n ih =>
    have hcut : (List.range ((n + 1) * size)).map f =
        (List.range size).map f ++ (List.range (n * size)).map fun i => f (size + i) := by
      rw [Nat.succ_mul, Nat.add_comm, List.range_add, List.map_append, List.map_map]
      rfl
    rw [hcut, splitEntries, List.take_left' (by simp), List.drop_left' (by simp), ih, List.range_succ_eq_map, List.map_cons, List.map_map]
    congr 1
    · simp
    · refine List.map_congr_left fun j _ => List.map_congr_left fun i _ => ?_
      have haddr : size + (j * size + i) = (j + 1) * size + i := by rw [Nat.succ_mul]; omega
      exact congrArg f haddr

/-- A store that is not present does not answer its identification read (R166). -/
theorem Part.not_identified {p : Part} (h : p.store.ident = 0 ∨ p.store.ident = 0xFFFFFF) : p.identified = false := by
  have ha : p.store.answers = false := h.elim Store.not_answers_of_shorted Store.not_answers_of_missing
  rw [Part.identified, Store.identBytes, if_neg (by simp [ha])]
  exact ha

/-- The burst at an address from its first five bytes (R167, parts 1 and 2). -/
theorem Part.nextBurst_succ (p : Part) (addr left applied : Nat) {start count : Nat}
    (hs : start = (p.imageByte (addr + 1)).toNat * 256 + (p.imageByte (addr + 2)).toNat)
    (hc : count = (p.imageByte (addr + 3)).toNat * 256 + (p.imageByte (addr + 4)).toNat) :
    p.nextBurst addr (left + 1) applied =
      if 65536 < addr + 5 then faultAt .overflow applied 65535
      else match tableOf (p.imageByte addr).toNat with
        | none => faultAt .burst applied addr
        | some t => if count = 0 ∨ tableEntries t < start + count then faultAt .burst applied addr
          else p.burstEntries addr t start count left applied := by
  have hid : field (p.imageBytes addr 5) 0 1 = (p.imageByte addr).toNat := field_one _ _ _ (p.imageBytes_get addr (by decide))
  have hstart : field (p.imageBytes addr 5) 1 2 = start :=
    hs ▸ field_two _ _ _ _ (p.imageBytes_get addr (by decide)) (p.imageBytes_get addr (by decide))
  have hcount : field (p.imageBytes addr 5) 3 2 = count :=
    hc ▸ field_two _ _ _ _ (p.imageBytes_get addr (by decide)) (p.imageBytes_get addr (by decide))
  unfold Part.nextBurst
  simp only [hid, hstart, hcount]
  rfl

/-- Settles O59: the loader's checks in their order, on the bytes as the store returns them. -/
theorem loaderReadsImage : Obligations.LoaderReadsImage := by
  refine ⟨fun p => rfl, fun p h => ?_, fun p at_ id fault hm h0 hat hid hfault => ?_⟩
  · rw [Part.loaderNext, Part.openImage, p.not_identified h]
    rfl
  have hbyte : at_ = p.imageByte := funext fun a => by rw [hat, Part.imageByte, Store.readByte_eq, if_neg hm, if_neg h0]
  have hident : p.identified = identAnswers id := by
    rw [hid, Part.identified, Store.identBytes, p.store.answers_iff.mpr ⟨h0, hm⟩, Bool.true_and]
  have hfault' : fault = faultAt := funext fun r => funext fun n => funext fun a => hfault r n a
  subst hbyte hfault'
  refine ⟨?_, fun addr applied => ⟨fun h => if_pos h, fun h hb => ?_, fun h hb => ?_⟩,
    fun addr left applied start count hs hc => ⟨fun h => ?_, fun h hbad => ?_, fun t h ht hne => ?_⟩⟩
  · rw [Part.loaderNext, Part.openImage, hident]
    have hiff : (!identAnswers id) = true ↔ id = 0 ∨ id = 0xFFFFFF := by
      simp only [identAnswers, Bool.not_eq_true', Bool.and_eq_false_iff, decide_eq_false_iff_not, not_not]
    simp only [hiff]
    rfl
  · exact (if_neg (Nat.not_le.mpr h)).trans (if_pos hb)
  · exact (if_neg (Nat.not_le.mpr h)).trans (if_neg hb)
  · rw [Part.loaderNext, p.nextBurst_succ addr left applied hs hc, if_pos h]
  · rw [Part.loaderNext, p.nextBurst_succ addr left applied hs hc, if_neg (Nat.not_lt.mpr h)]
    cases ht : tableOf (p.imageByte addr).toNat with
    | none => rfl
    | some t => exact if_pos (.inl (hbad.resolve_left (by rw [ht]; nofun)))
  · have hburst : p.loaderNext (.bursts addr (left + 1) applied) = if count = 0 ∨ tableEntries t < start + count then
        faultAt .burst applied addr else p.burstEntries addr t start count left applied := by
      rw [Part.loaderNext, p.nextBurst_succ addr left applied hs hc, if_neg (Nat.not_lt.mpr h), ht]
    refine ⟨fun hrun => ?_, fun hrun hlong => ?_, fun es hrun hfits hes => ?_⟩
    · rw [hburst, if_pos (.inr hrun)]
    · rw [hburst, if_neg (by omega), Part.burstEntries]
      exact if_pos hlong
    · have hsplit : splitEntries (tableSize t) count (p.imageBytes (addr + 5) (count * tableSize t)) = es := by
        rw [hes, Part.imageBytes_eq, splitEntries_range]
        simp only [Nat.add_assoc]
      have hentries : p.burstEntries addr t start count left applied = match firstFaulty t start es with
          | some _ => faultAt .burst applied addr
          | none => .burst t start es (addr + 5 + count * tableSize t) left (applied + 1) := by
        rw [Part.burstEntries, hsplit]
        exact if_neg (Nat.not_lt.mpr hfits)
      rw [hburst, if_neg (by omega), hentries]
      refine ⟨fun hbad => ?_, fun hok => ?_⟩
      · cases hf : firstFaulty t start es with
        | none =>
          obtain ⟨e, he, hbad⟩ := hbad
          rw [(firstFaulty_eq_none_iff t start es).mp hf e he] at hbad
          cases hbad
        | some i => rfl
      · rw [(firstFaulty_eq_none_iff t start es).mpr hok]

/-! ### The events of a run -/

section
variable {p : Part} {st : LoaderStage}

theorem Part.applyBurst_outside (h : p.boot.stage = none) : p.applyBurst = p := by rw [Part.applyBurst, h]

theorem Part.loaderEnd_outside (h : p.boot.stage = none) : p.loaderEnd = p := by rw [Part.loaderEnd, h]

/-- While a missing store is polled the run does not go on (R166, log 11). -/
theorem Part.waits_of_missing (hm : p.store.ident = 0xFFFFFF) : p.loaderWaits .busyWait = true := by
  rw [Part.loaderWaits, Store.idle_reportsBusy, p.store.missing_iff.mpr hm]
  rfl

theorem Part.not_waits (hm : st = .busyWait → p.store.ident ≠ 0xFFFFFF) : p.loaderWaits st = false := by
  by_cases hst : st = .busyWait
  · rw [Part.loaderWaits, Store.idle_reportsBusy, Store.not_missing (hm hst), Bool.and_false]
  · simp [Part.loaderWaits, hst]

theorem Part.waitOver_eq (p : Part) (st : LoaderStage) :
    p.waitOver st = { p with store := if st = .busyWait then { p.store with busy := false } else p.store } := by
  unfold Part.waitOver
  split <;> rfl

theorem Part.applyBurst_eq (hst : p.boot.stage = some st) (hw : p.loaderWaits st = false) :
    p.applyBurst = match (p.waitOver st).loaderNext st with
      | .burst t start es next left applied =>
        Part.writeEntries { p.waitOver st with boot := p.boot.withStage (.bursts next left applied) } t start es
      | .finish _ => p := by
  rw [Part.applyBurst, hst]
  exact if_neg (by rw [hw]; decide)

theorem Part.loaderEnd_eq (hst : p.boot.stage = some st) (hw : p.loaderWaits st = false) :
    p.loaderEnd = match (p.waitOver st).loaderNext st with
      | .finish r => (p.waitOver st).endLoader r
      | .burst _ _ _ _ _ _ => p := by
  rw [Part.loaderEnd, hst]
  exact if_neg (by rw [hw]; decide)
end

theorem LoaderResult.flag_eq (r : LoaderResult) : r.flag = if r = .fault then .loaderFault else .loaderDone := by cases r <;> rfl

/-- The head step takes a conversion from an UNVERIFIED head alone (R170, log 24). -/
theorem Part.headStep_unverified {p : Part} (h : p.head = .unverified) : p.headStep = { p with boot := .headStep, head := .measuring } := by
  rw [Part.headStep, h]

theorem Part.headStep_other {p : Part} (h : p.head ≠ .unverified) : p.headStep = Part.autostart { p with boot := .ready } := by
  unfold Part.headStep
  split
  · next hu => exact absurd hu h
  · rfl

section
variable {p q : Part} {r : LoaderRecord} {st : LoaderStage}

theorem Part.endLoader_reloading (h : p.boot = .reloading st)
    (hq : Part.raise { p with loaded := r, free := p.free + Config.storeSize } r.result.flag = q) :
    p.endLoader r = { q with boot := .ready } := by
  rw [← hq, Part.endLoader, h]

theorem Part.endLoader_starting (h : p.boot = .starting st)
    (hq : Part.raise { p with loaded := r, free := p.free + Config.storeSize } r.result.flag = q) :
    p.endLoader r = q.headStep := by
  rw [← hq, Part.endLoader, h]
end

/-- Settles O60: the stage of the run and what the image holds next decide each event. -/
theorem loaderEvents : Obligations.LoaderEvents := by
  refine ⟨fun s => ⟨fun h => ?_, fun h => ?_, fun h => ?_⟩, fun s hb hm => ?_, fun s st p hb hm hp => ⟨?_, ?_⟩,
    fun tag s c hfree hready hc => ?_⟩
  · simp only [exec, execLoaderBusyTimeout, Part.loaderTimeout, h, Boot.stage, Boot.withStage]
  · simp only [exec, execLoaderBusyTimeout, Part.loaderTimeout, h, Boot.stage, Boot.withStage]
  · have hnone : s.toPart.boot.stage = none := by rcases h with h | h <;> rw [h] <;> rfl
    refine ⟨?_, ?_, ?_⟩
    · simp only [exec, execLoaderBusyTimeout, Part.loaderTimeout, hnone]
    · simp only [exec, execBurstApply, Part.applyBurst_outside hnone]
    · simp only [exec, execLoaderEnd, Part.loaderEnd_outside hnone]
  · have hst : s.toPart.boot.stage = some .busyWait := by rcases hb with h | h <;> rw [h] <;> rfl
    have hw : s.toPart.loaderWaits .busyWait = true := Part.waits_of_missing hm
    refine ⟨?_, ?_⟩
    · simp only [exec, execBurstApply, Part.applyBurst, hst, hw, if_true]
    · simp only [exec, execLoaderEnd, Part.loaderEnd, hst, hw, if_true]
  · intro t start es next left applied hnext
    have hst : s.toPart.boot.stage = some st := by rcases hb with h | h <;> rw [h] <;> rfl
    have hover : s.toPart.waitOver st = p := by rw [hp, Part.waitOver_eq]
    have hw : s.toPart.loaderWaits st = false := Part.not_waits hm
    have hburst : s.toPart.applyBurst = Part.writeEntries { p with boot := s.boot.withStage (.bursts next left applied) } t start es := by
      rw [Part.applyBurst_eq hst hw, hover, hnext]
    refine ⟨?_, fun h => ?_, fun h => ?_⟩
    · simp only [exec, execLoaderEnd, Part.loaderEnd_eq hst hw, hover, hnext]
    · simp only [exec, execBurstApply, hburst, h, Boot.withStage]
    · simp only [exec, execBurstApply, hburst, h, Boot.withStage]
  · intro r q hnext hq
    have hst : s.toPart.boot.stage = some st := by rcases hb with h | h <;> rw [h] <;> rfl
    have hover : s.toPart.waitOver st = p := by rw [hp, Part.waitOver_eq]
    have hw : s.toPart.loaderWaits st = false := Part.not_waits hm
    have hend : s.toPart.loaderEnd = p.endLoader r := by rw [Part.loaderEnd_eq hst hw, hover, hnext]
    have hraised : Part.raise { p with loaded := r, free := p.free + Config.storeSize } r.result.flag = q := by
      rw [hq, LoaderResult.flag_eq, hp]
      rfl
    have hboot : p.boot = s.boot := by rw [hp]
    have hhead : q.head = s.head := by rw [hq, Part.raise_head, hp]
    refine ⟨?_, fun h => ?_, fun h hu => ?_, fun h hu => ?_⟩
    · simp only [exec, execBurstApply, Part.applyBurst_eq hst hw, hover, hnext]
    · simp only [exec, execLoaderEnd, hend, Part.endLoader_reloading (hboot.trans h) hraised]
    · simp only [exec, execLoaderEnd, hend, Part.endLoader_starting (hboot.trans h) hraised, Part.headStep_unverified (hhead.trans hu)]
    · simp only [exec, execLoaderEnd, hend, Part.endLoader_starting (hboot.trans h) hraised,
        Part.headStep_other (fun hx => hu (hhead.symm.trans hx))]
  · have hexec : exec (.storeReload tag []) s = .next { s with toPart := s.toPart.takeStoreReload c } :=
      exec_command .storeReload hfree (.inl hready) (by rw [hc]; rfl) (by rw [hc]; rfl) (by rw [hc]; exact .inr rfl)
    rw [hexec, Part.takeStoreReload]
    refine ⟨fun h => ?_, fun hruns hbanks => ?_⟩
    · rw [if_neg]
      · rfl
      · rw [Part.atRest_iff]
        rintro ⟨hruns, hbanks⟩
        exact h.elim (fun ⟨k, hk⟩ => hk (hruns k)) (fun ⟨b, hb⟩ => hb (hbanks b))
    · rw [if_pos ((Part.atRest_iff _).mpr ⟨hruns, hbanks⟩)]

end Sys2Proof.Machine

/-! Profile arithmetic (R78 to R83), gate validity (R61), and the bins handed to the finder (R94). -/

namespace Sys2Proof.Machine

/-! ### Tables read by a bin index -/

theorem look_fin {α : Type} {n : Nat} (v : Vector α n) (i : Fin n) (d : α) : look v i d = v[i] := by
  simp [look]

theorem tab_eq_ofFn {α : Type} (n : Nat) (f : Nat → α) : tab n f = Vector.ofFn fun i => f i := by
  apply Vector.ext
  intro i hi
  simp [tab]

/-- The bits of a mask are the list it is made from. -/
theorem maskOf_getLsbD {w : Nat} (bits : List Bool) (i : Nat) : (maskOf w bits).getLsbD i = (decide (i < w) && bits.getD i false) := by
  induction bits generalizing i with
  | nil => simp [maskOf]
  | cons b rest ih =>
    have hcons : maskOf w (b :: rest) = (maskOf w rest <<< 1) ||| (if b then 1#w else 0#w) := rfl
    rw [hcons, BitVec.getLsbD_or, BitVec.getLsbD_shiftLeft]
    cases i with
    | zero => cases b <;> simp [BitVec.getLsbD_one]
    | succ j =>
      have hlow : (if b then 1#w else 0#w).getLsbD (j + 1) = false := by cases b <;> simp [BitVec.getLsbD_one]
      rw [hlow, Nat.add_sub_cancel, ih]
      by_cases h : j + 1 < w
      · simp [h, Nat.lt_of_succ_lt h]
      · simp [h]

/-! ### The four stages -/

/-- A quotient is bounded by what bounds its numerator. -/
theorem roundDiv_natAbs_le {a : Int} {b c : Nat} (hb : 1 ≤ b) (h : a.natAbs ≤ c * b) : (roundDiv a b).natAbs ≤ c := by
  rw [roundDiv_natAbs]
  have hlt : 2 * a.natAbs + b < (c + 1) * (2 * b) := by
    have hc : (c + 1) * (2 * b) = 2 * (c * b) + 2 * b := by ring
    omega
  exact Nat.le_of_lt_succ ((Nat.div_lt_iff_lt_mul (by omega)).mpr hlt)

/-- A multiple of the divisor is divided exactly. -/
theorem roundDiv_mul (c : Int) {b : Nat} (hb : 1 ≤ b) : roundDiv (c * b) b = c := by
  have herr := (roundDiv_nearest (c * b) hb).1
  have hfactor : c * b - b * roundDiv (c * b) b = b * (c - roundDiv (c * b) b) := by ring
  rw [hfactor, Int.natAbs_mul, Int.natAbs_natCast] at herr
  have hzero : (c - roundDiv (c * b) b).natAbs = 0 := by
    by_contra hne
    have : b ≤ b * (c - roundDiv (c * b) b).natAbs := Nat.le_mul_of_pos_right b (Nat.pos_of_ne_zero hne)
    omega
  omega

theorem stage1_natAbs_le {a w pre n : Nat} (hw : 1 ≤ w) (hn : 1 ≤ n) (ha : a ≤ 16383 * w * n) (hp : pre ≤ 16383 * 64 * n) :
    (stage1 a w pre n).natAbs ≤ 4194048 := by
  refine roundDiv_natAbs_le (Nat.mul_pos hw hn) ?_
  have hprod : w * pre ≤ 1048512 * (w * n) := calc
    w * pre ≤ w * (16383 * 64 * n) := Nat.mul_le_mul_left w hp
    _ = 1048512 * (w * n) := by ring
  have hsum : 64 * a ≤ 1048512 * (w * n) := calc
    64 * a ≤ 64 * (16383 * w * n) := Nat.mul_le_mul_left 64 ha
    _ = 1048512 * (w * n) := by ring
  have hcast : (w : Int) * pre = ((w * pre : Nat) : Int) := by push_cast; rfl
  rw [hcast]
  generalize w * pre = x at *
  omega

theorem stage3_natAbs_le (e n : Nat) {esum : Nat} {u : Int} (hs : 1 ≤ esum) (hu : u.natAbs ≤ 4194304) :
    (stage3 e n esum u).natAbs ≤ 16777216 := by
  rw [stage3, if_neg (by omega)]
  refine roundDiv_natAbs_le hs ?_
  rw [Int.natAbs_mul, Int.natAbs_natCast]
  calc u.natAbs * gainOf e n esum ≤ 4194304 * (4 * esum) := Nat.mul_le_mul hu (Nat.min_le_right _ _)
    _ = 16777216 * esum := by ring

theorem clampInt_below {lo hi v : Int} (h : v < lo) : clampInt lo hi v = lo := by
  unfold clampInt
  omega

theorem clampInt_above {lo hi v : Int} (hle : lo ≤ hi) (h : hi < v) : clampInt lo hi v = hi := by
  unfold clampInt
  omega

theorem clampInt_within {lo hi v : Int} (hlo : lo ≤ v) (hhi : v ≤ hi) : clampInt lo hi v = v := by
  unfold clampInt
  omega

/-- Settles O6: each stage by the rules about rounding and clamping. -/
theorem profileStages : Obligations.ProfileStages := by
  refine ⟨fun a w pre n hw hn ha hp => ?_, fun d i u => ⟨fun h => if_neg h, fun h hlt => ?_, fun h hgt => ?_, fun h hlo hhi => ?_⟩,
    fun e n esum u => ⟨rfl, fun hs hle => ?_, fun hs hge => ?_, fun hs hlo hhi => ?_⟩, fun c v => ?_⟩
  · have h := stage1_natAbs_le hw hn ha hp
    exact ⟨rfl, by omega, by omega⟩
  · rw [stage2, if_pos h, look_fin, clampInt_below hlt]
  · rw [stage2, if_pos h, look_fin, clampInt_above (by decide) hgt]
  · rw [stage2, if_pos h, look_fin, clampInt_within hlo hhi]
  · rw [stage3, if_neg (by omega), gainOf, Nat.min_eq_left hle]
  · have hmul : u * ((4 * esum : Nat) : Int) = 4 * u * esum := by push_cast; ring
    rw [stage3, if_neg (by omega), gainOf, Nat.min_eq_right hge, hmul, roundDiv_mul _ hs]
  · have h := stage3_natAbs_le e n hs (u := u) (by omega)
    exact ⟨by omega, by omega⟩
  · have hraw : stage4Raw c v = roundDiv (v * c.m * 2 ^ c.k) 1048576 := rfl
    rw [stage4, hraw]
    refine ⟨by unfold clampInt; omega, by unfold clampInt; omega, fun hm => ?_, clampInt_within, clampInt_above (by decide),
      clampInt_below⟩
    rw [hm, Nat.cast_zero, Int.mul_zero, Int.zero_mul, roundDiv_zero]
    rfl

/-! ### Gate validity and heights -/

theorem Gates.entry_fin (g : Gates) (i : Fin 512) : g.entry i = g.table[i] := look_fin _ _ _

theorem Gates.valid_iff (g : Gates) :
    g.valid = true ↔ 1 ≤ g.nb ∧ (∀ i, i < g.nb → (g.entry i).s + (g.entry i).w ≤ 4032) ∧
      (∀ i, i + 1 < g.nb → (g.entry i).s + (g.entry i).w ≤ (g.entry (i + 1)).s) := by
  simp only [Gates.valid, Bool.and_eq_true, decide_eq_true_eq, List.all_eq_true, List.mem_range, and_assoc, Nat.lt_sub_iff_add_lt]

/-- Settles O7: the entries of a valid table stand one above the other, below 4,032. -/
theorem gateValidityAndHeights : Obligations.GateValidityAndHeights := by
  intro g _
  refine ⟨g.valid_iff, fun i => ?_, fun hv i hi => ?_⟩
  · rw [Gates.base, Gates.top, Gates.span, g.entry_fin]
    exact ⟨rfl, rfl, rfl⟩
  · obtain ⟨-, hend, hnext⟩ := g.valid_iff.mp hv
    have htop := hend i hi
    refine ⟨by rw [Gates.top]; omega, fun hi1 => ?_⟩
    have h := hnext i hi1
    rw [Gates.top, Gates.base]
    omega

/-! ### The values of a bank -/

theorem Bank.signal_fin (b : Bank) (g : Gates) (i : Fin 512) :
    b.signal g i = stage1 b.sums[i] g.table[i].w b.pre b.accepted := by
  rw [Bank.signal, look_fin, g.entry_fin]

theorem Bank.scaled_fin (b : Bank) (g : Gates) (l : LitInputs) (i : Fin 512) :
    b.scaled g l i = stage3 l.eRef b.accepted b.esum (stage2 l.dark i (stage1 b.sums[i] g.table[i].w b.pre b.accepted)) := by
  rw [Bank.scaled, b.signal_fin]

/-- Stage 4 saturates exactly when its raw product leaves the range (R83). -/
theorem Bank.saturates_iff (b : Bank) (g : Gates) (corr : Vector CorrEntry 512) (l : LitInputs) (i : Nat) :
    b.saturates g corr l i = true ↔ 2147483647 < (stage4Raw (corrAt corr i) (b.scaled g l i)).natAbs := by
  rw [Bank.saturates, Bool.or_eq_true, decide_eq_true_eq, decide_eq_true_eq]
  omega

/-- Settles O34: values and views entry by entry, flags bit by bit. -/
theorem bankValuesAndFlags : Obligations.BankValuesAndFlags := by
  intro b g corr l hnb
  have hbit : ∀ i, (b.profileFlags g corr l).getLsbD i = (decide (i < 16) && List.getD [l.eRefHeld, decide (l.dark.state ≠ .valid),
      decide (b.esum = 0), decide (b.esum ≠ 0) && decide (4 * b.esum < l.eRef * b.accepted),
      (List.range g.nb).any (b.saturates g corr l)] i false) := maskOf_getLsbD _
  refine ⟨by simp [Bank.values], by simp [Bank.values], fun i hi => ⟨?_, ?_⟩, hbit 0, ?_, ?_, ?_, ?_, fun j hj => ?_,
    fun thresh values hle hhi => ⟨by simp [binViews], fun i v hlo hup hv => ?_⟩⟩
  · simp [Bank.values, List.getElem?_range hi, b.signal_fin]
  · have hcorr : corrAt corr i = corr[i] := look_fin _ _ _
    rw [Bank.values, List.getElem?_map, List.getElem?_range hi, Option.map_some, Bank.beta, hcorr, b.scaled_fin]
  · rw [hbit 1]
    exact decide_eq_true_iff
  · rw [hbit 2]
    exact decide_eq_true_iff
  · rw [hbit 3]
    simp only [Nat.reduceLT, decide_true, Bool.true_and, List.getD_cons_succ, List.getD_cons_zero, Bool.and_eq_true, decide_eq_true_eq]
    omega
  · rw [hbit 4]
    simp only [Nat.reduceLT, decide_true, Bool.true_and, List.getD_cons_succ, List.getD_cons_zero, List.any_eq_true, List.mem_range,
      Bank.saturates_iff]
    refine ⟨fun ⟨i, hi, hsat⟩ => ⟨⟨i, by omega⟩, hi, ?_⟩, fun ⟨i, hi, hsat⟩ => ⟨i, hi, ?_⟩⟩
    · rw [← b.scaled_fin]
      have hcorr : corrAt corr i = corr[(⟨i, by omega⟩ : Fin 512)] := look_fin corr ⟨i, by omega⟩ _
      rwa [hcorr] at hsat
    · have hcorr : corrAt corr i = corr[i] := look_fin _ _ _
      rw [b.scaled_fin, hcorr]
      exact hsat
  · rw [hbit j]
    simp [hj]
  · have hsum : b.settings.sortLo + (i.val - b.settings.sortLo) = i := by omega
    rw [binViews, List.getElem?_map, List.getElem?_range (by omega), Option.map_some]
    simp only [hsum, Gates.base, Gates.top, Gates.span, g.entry_fin, look_fin, List.getD_eq_getElem?_getD, hv, Option.getD_some]

end Sys2Proof.Machine

/-! The Profile Engine at profile complete (R74 to R78, R85, R86, R90, R91, R94). -/

namespace Sys2Proof.Machine

/-! ### Results and profile -/

theorem ownerOf_of_val {b : Fin 8} {k : Fin 4} (h : k.val = b.val / 2) : ownerOf b = k := Fin.ext h.symm

theorem bankOf_odd : ∀ (k : Fin 4) (odd : Bool), decide ((bankOf k odd).val % 2 = 1) = odd := by decide

section
variable {p : Part} {h : InHand}

/-- The dark reference a completed DARK bank leaves (R86). -/
theorem Part.results_dark (hl : h.lit = none) : p.results h = { p with engine := { p.engine with
      dark := { state := .valid
                source := some (ownerOf h.bank, p.banks[h.bank].sequence)
                values := Vector.ofFn fun i => if i < p.gates.nb
                  then stage1 p.banks[h.bank].sums[i] p.gates.table[i].w p.banks[h.bank].pre p.banks[h.bank].accepted
                  else p.engine.dark.values[i] } } } := by
  have hresults : p.results h = p.writeDark h.bank := by rw [Part.results, hl]
  have hvalues : (tab 512 fun i => if i < p.gates.nb then p.banks[h.bank].signal p.gates i else look p.engine.dark.values i 0) =
      Vector.ofFn fun i => if i < p.gates.nb
        then stage1 p.banks[h.bank].sums[i] p.gates.table[i].w p.banks[h.bank].pre p.banks[h.bank].accepted
        else p.engine.dark.values[i] := by
    rw [tab_eq_ofFn]
    congr 1
    funext i
    rw [Bank.signal_fin, look_fin]
  rw [hresults, Part.writeDark, hvalues]

theorem Part.results_lit {l : LitInputs} (hl : h.lit = some l) (hs : p.banks[h.bank].settings.sort = false) : p.results h = p := by
  rw [Part.results, hl]
  exact if_neg (by rw [hs]; decide)

theorem Part.results_sorting {l : LitInputs} (hl : h.lit = some l) (hs : p.banks[h.bank].settings.sort = true) :
    p.results h = p.sortingPass (ownerOf h.bank) p.banks[h.bank] (p.banks[h.bank].profileFlags p.gates p.corr l)
      (findLayers p.finder (binViews p.gates p.thresh p.banks[h.bank] (p.banks[h.bank].values p.gates p.corr (some l)))) := by
  have hflags : p.flagsInHand h = p.banks[h.bank].profileFlags p.gates p.corr l := by rw [Part.flagsInHand, hl]
  have hfindings : p.findingsInHand h = findLayers p.finder
      (binViews p.gates p.thresh p.banks[h.bank] (p.banks[h.bank].values p.gates p.corr (some l))) := by
    rw [Part.findingsInHand, Part.valuesInHand, hl]
  rw [Part.results, hl, ← hflags, ← hfindings]
  exact if_pos hs

theorem Part.profileStep_sends (f : Profile) (hs : p.banks[h.bank].settings.sendProfile = true) : p.profileStep h f = p.offerProfile f :=
  if_pos hs

theorem Part.profileStep_keeps (f : Profile) (hs : p.banks[h.bank].settings.sendProfile = false) : p.profileStep h f = p :=
  if_neg (by rw [hs]; decide)
end

/-! ### The beginning of processing -/

section
variable {p : Part} {b : Fin 8} {rest : List (Fin 8)}

theorem Part.beginNext_dark (hi : p.engine.inHand = none) (hq : p.engine.queue = b :: rest) (hk : p.banks[b].settings.kind = .dark) :
    p.beginNext = { p with
      banks := p.banks.set b { p.banks[b] with state := .processing }
      engine := { p.engine with inHand := some { bank := b, lit := none }, queue := rest } } := by
  simp only [Part.beginNext, hi, hq, hk]
  rfl

theorem Part.beginNext_lit (hi : p.engine.inHand = none) (hq : p.engine.queue = b :: rest) (hk : p.banks[b].settings.kind = .lit)
    {l : LitInputs} (hl : p.litInputs (ownerOf b) = l) :
    p.beginNext = { p with
      banks := p.banks.set b { p.banks[b] with state := .processing }
      engine := { p.engine with
        inHand := some { bank := b, lit := some l }, queue := rest, lastERef := p.engine.lastERef.set (ownerOf b) l.eRef } } := by
  simp only [Part.beginNext, hi, hq, hk, hl]
  rfl
end

/-- The reference energy comes from the row of a VERIFIED head (R75). -/
theorem Part.litInputs_verified {p : Part} {c : Fin 8} (h : p.head = .verified c) (k : Fin 4) :
    p.litInputs k = { eRef := p.headTable[c].eRef, eRefHeld := false, dark := p.engine.dark } := by
  simp only [Part.litInputs, Part.selectedRow, h]

/-- Without one it is the campaign's last (R75). -/
theorem Part.litInputs_held {p : Part} (h : ∀ c, p.head ≠ .verified c) (k : Fin 4) :
    p.litInputs k = { eRef := p.engine.lastERef[k], eRefHeld := true, dark := p.engine.dark } := by
  have hrow : p.selectedRow = none := by
    unfold Part.selectedRow
    split
    · next c hc => exact absurd hc (h c)
    · rfl
  rw [Part.litInputs, hrow]

/-! ### The profile out slot -/

section
variable {p : Part} (f : Profile)

theorem Part.offerProfile_empty (h : p.engine.slot = .empty) :
    p.offerProfile f = Part.kick { p with engine := { p.engine with slot := .waiting f, skipped := 0 } } := by
  rw [Part.offerProfile, h]

theorem Part.offerProfile_occupied (h : p.engine.slot ≠ .empty) :
    p.offerProfile f = Part.raise { p with engine := { p.engine with skipped := min (p.engine.skipped + 1) 255 } } .profileSkipped := by
  unfold Part.offerProfile
  split
  · next he => exact absurd he h
  · rfl
end

/-- With nothing of higher precedence an IDLE scheduler begins the profile (R152, R153). -/
theorem Part.beginFrame_profile {p : Part} {f : Profile} (hr : p.link.replies = []) (hn : p.status.pendingSet = 0)
    (hp : p.link.reports = []) (hs : p.engine.slot = .waiting f) :
    p.beginFrame = { p with link := { p.link with sending := some f.frame }, engine := { p.engine with slot := .sending } } := by
  simp [Part.beginFrame, hr, hn, hp, hs]

/-- Settles O35: each step by the rule about its function. -/
theorem engineSteps : Obligations.EngineSteps := by
  refine ⟨fun p h b k hb hk => ?_, fun p b k r hk hr => ?_, fun p b rest k banks e held hi hq hk hbanks he => ?_,
    fun p => Part.beginNext_idle, fun p f => ⟨fun g hs hg => ?_, fun hs hidle hr hn hp => ?_, p.offerProfile_occupied f⟩⟩
  · obtain rfl := ownerOf_of_val hk
    subst hb
    refine ⟨Part.results_dark, fun l => Part.results_lit, fun l => Part.results_sorting, ?_,
      fun f => ⟨Part.profileStep_sends f, Part.profileStep_keeps f⟩⟩
    obtain ⟨bank, lit⟩ := h
    cases lit <;> rfl
  · obtain rfl := ownerOf_of_val hk
    obtain ⟨k, odd, rfl⟩ := exists_bankOf b
    rw [hr, ownerOf_bankOf, bankOf_odd]
    rcases p.freeBank_cases k odd with ⟨hs, hfree⟩ | ⟨hs, hfree⟩
    · exact ⟨fun _ => hfree, fun hw => absurd hw hs⟩
    · exact ⟨fun hw => absurd hs hw, fun _ => hfree⟩
  · obtain rfl := ownerOf_of_val hk
    subst hbanks
    refine ⟨Part.beginNext_dark hi hq, fun hlit => ?_⟩
    rcases he with ⟨c, hc, rfl, rfl⟩ | ⟨hc, rfl, rfl⟩
    · exact Part.beginNext_lit hi hq hlit (Part.litInputs_verified hc _)
    · exact Part.beginNext_lit hi hq hlit (Part.litInputs_held hc _)
  · rw [Part.offerProfile_empty f hs, Part.kick_sending _ (by exact hg)]
  · rw [Part.offerProfile_empty f hs, Part.kick_idle _ (by exact hidle), Part.beginFrame_profile (by exact hr) (by exact hn) (by exact hp) rfl]

/-! ### The whole event -/

/-- A sorting pass writes the track table and the outbound side alone (R121). -/
theorem Part.sortingPass_core (p : Part) (c : Fin 4) (b : Bank) (flags : BitVec 16) (f : Findings) :
    ∃ y r, p.sortingPass c b flags f = Part.withOutbound { p with sky := y } r := by
  have hraise : Part.Like { p with sky := (p.sky.pass p.tracker c f.detections).1 }
      (if (p.sky.pass p.tracker c f.detections).2 then
        Part.raise { p with sky := (p.sky.pass p.tracker c f.detections).1 } .trackFull
      else { p with sky := (p.sky.pass p.tracker c f.detections).1 }) := by
    split
    · exact Part.raise_like _ _
    · exact .refl _
  exact ⟨_, (hraise.trans (Part.placeReport_like _ _)).core⟩

/-- Profile complete with nothing queued, held or to be sent behind its results (R77). -/
theorem Part.completeProfile_alone {p q : Part} {h : InHand} (hq : p.results h = q) (hbanks : q.banks = p.banks) (hruns : q.runs = p.runs)
    (hqueue : q.engine.queue = []) (hheld : q.link.held = none) (hsend : p.banks[h.bank].settings.sendProfile = false)
    (hwait : p.runs[ownerOf h.bank].state ≠ .waitBank) :
    p.completeProfile h = { q with
      banks := p.banks.set h.bank { p.banks[h.bank] with state := .free }
      runs := p.runs.set (ownerOf h.bank)
        { p.runs[ownerOf h.bank] with completed := (p.runs[ownerOf h.bank].completed + 1) % 65536 }
      engine := { q.engine with inHand := none } } := by
  have hfreed : q.freeBank h.bank = { q with
      banks := p.banks.set h.bank { p.banks[h.bank] with state := .free }
      runs := p.runs.set (ownerOf h.bank)
        { p.runs[ownerOf h.bank] with completed := (p.runs[ownerOf h.bank].completed + 1) % 65536 } } := by
    rw [← hbanks, ← hruns]
    exact (engineSteps.2.1 q h.bank (ownerOf h.bank) _ rfl rfl).1 (by rw [hruns]; exact hwait)
  rw [Part.completeProfile, hq, Part.profileStep_keeps _ (by rw [hbanks]; exact hsend), hfreed,
    Part.applyDeferred_other (fun d t => by rw [hheld]; nofun) (fun d => by rw [hheld]; nofun), Part.nextBank,
    Part.beginNext_idle (.inr (by exact hqueue))]

/-- Settles O33: the results of the bank in hand, then the whole event with nothing behind it. -/
theorem profileCompletes : Obligations.ProfileCompletes := by
  refine ⟨fun s h => ?_, fun s h b k banks runs hh hb hk hqueue hheld hnone hsend hwait hbanks hruns => ?_⟩
  · simp only [exec, execProfileComplete, Part.profileComplete, h]
  obtain rfl := ownerOf_of_val hk
  subst hb hbanks hruns
  have hexec : ∀ q : Part, s.toPart.completeProfile h = q → q.link.commands = [] →
      exec .profileComplete s = .next { s with toPart := q } := by
    intro q hq hcommands
    simp only [exec, execProfileComplete, Part.profileComplete, hh, hq, Part.takeCommands_none (.inl hcommands)]
  refine ⟨fun hl => ?_, fun l hl hsort => ?_, fun l q hl hsort hq => ?_⟩
  · exact hexec _ (Part.completeProfile_alone (Part.results_dark hl) rfl rfl hqueue hheld hsend hwait) hnone
  · exact hexec _ (Part.completeProfile_alone (Part.results_lit hl hsort) rfl rfl hqueue hheld hsend hwait) hnone
  · have hresults : s.toPart.results h = q := (Part.results_sorting hl hsort).trans hq.symm
    obtain ⟨y, r, hcore⟩ := s.toPart.sortingPass_core (ownerOf h.bank) s.banks[h.bank] (s.banks[h.bank].profileFlags s.gates s.corr l)
      (findLayers s.finder (binViews s.gates s.thresh s.banks[h.bank]
        ((List.range s.gates.nb).map (s.banks[h.bank].beta s.gates s.corr l))))
    rw [← hq] at hcore
    exact hexec _ (Part.completeProfile_alone hresults (by rw [hcore]; rfl) (by rw [hcore]; rfl) (by rw [hcore]; exact hqueue)
      (by rw [hcore]; exact hheld) hsend hwait) (by rw [hcore]; exact hnone)

end Sys2Proof.Machine

/-! The end of a shot: the verdict on a record, the rejected end, and the record added to its bank (R46 to R57, R68). -/

namespace Sys2Proof.Machine

/-! ### A record added to its bank -/

/-- The sum of a run of a list, a missing entry counting 0, taken entry by entry. -/
theorem sum_drop_take {α : Type} (f : α → Nat) (l : List α) (k n : Nat) :
    (((l.drop k).take n).map f).sum = ((List.range n).map fun j => (l[k + j]?.map f).getD 0).sum := by
  induction n with
  | zero => simp
  | succ n ih =>
    rw [List.take_add_one, List.map_append, List.sum_append, ih, List.range_succ, List.map_append, List.sum_append, List.getElem?_drop]
    cases h : l[k + n]? <;> simp [h]

/-- A sum over positions of a record is the sum of the words at them (R46). -/
theorem Record.sumFrom_eq (r : Record) {pos : Nat} (hpos : 1 ≤ pos) (n : Nat) :
    r.sumFrom pos n = ((List.range n).map fun j => (r.wordAt (pos + j)).toNat).sum := by
  rw [Record.sumFrom, sum_drop_take]
  congr 1
  refine List.map_congr_left fun j _ => ?_
  have hidx : pos - 1 + j = pos + j - 1 := by omega
  rw [hidx, Record.wordAt]
  cases r.words[pos + j - 1]? with
  | none => rfl
  | some w => rfl

theorem Record.clipsBin_iff (r : Record) (g : GateEntry) : r.clipsBin g = true ↔ ∃ c ∈ r.clips, g.s ≤ c ∧ c < g.s + g.w := by
  simp [Record.clipsBin]

/-- Settles O32: the bank's fields one by one, sums and marks bin by bin. -/
theorem recordAddedToBank : Obligations.RecordAddedToBank := by
  rintro b t g r kind tick hnb - rfl
  have hclips : ∀ i : Fin 512, (decide (i < g.nb) && r.clipsBin (g.entry i)) = true ↔
      i < g.nb ∧ ∃ c ∈ r.clips, g.table[i].s ≤ c ∧ c < g.table[i].s + g.table[i].w := fun i => by
    rw [Bool.and_eq_true, decide_eq_true_eq, r.clipsBin_iff, g.entry_fin]
  have hany : (List.range g.nb).any (fun i => decide (i < g.nb) && r.clipsBin (g.entry i)) = true ↔
      ∃ i : Fin 512, i < g.nb ∧ ∃ c ∈ r.clips, g.table[i].s ≤ c ∧ c < g.table[i].s + g.table[i].w := by
    rw [List.any_eq_true]
    refine ⟨fun ⟨i, hi, hc⟩ => ?_, fun ⟨i, hi, hc⟩ => ⟨i, List.mem_range.mpr hi, (hclips i).mpr ⟨hi, hc⟩⟩⟩
    have hlt : i < g.nb := List.mem_range.mp hi
    exact ⟨⟨i, by omega⟩, (hclips ⟨i, by omega⟩).mp hc⟩
  refine ⟨fun i => ?_, ?_, ?_, rfl, ?_, rfl, fun i => ?_, ?_, Bank.add_state b g r kind tick, by simp only [Bank.add],
    by simp only [Bank.add], by simp only [Bank.add], by simp only [Bank.add]⟩
  · have hsum : r.binSum (g.entry i) = ((List.range g.table[i].w).map fun j => (r.wordAt (70 + g.table[i].s + j)).toNat).sum := by
      rw [g.entry_fin, Record.binSum, r.sumFrom_eq (by omega)]
    simp [Bank.add, tab_eq_ofFn, hsum, look]
  · rw [← r.sumFrom_eq (by decide)]
    rfl
  · cases kind <;> rfl
  · show (if b.accepted + 1 = 1 then tick else b.firstTick) = _
    simp
  · have hget : (b.add g r kind tick).clipMap[i] = (b.clipMap[i] || (decide (i < g.nb) && r.clipsBin (g.entry i))) := by
      simp [Bank.add, tab_eq_ofFn, look]
    rw [hget, Bool.or_eq_true, hclips]
  · show (if (List.range g.nb).any (fun i => decide (i < g.nb) && r.clipsBin (g.entry i)) then bump16 b.clippedShots
      else b.clippedShots) = _
    simp only [hany]
    rfl

/-! ### The rejected end -/

theorem PortRx.unbind_other {rx : PortRx} (h : ∀ r, rx ≠ .record r) : rx.unbind = rx := by
  cases rx with
  | record r => exact absurd rfl (h r)
  | off | settle | hunt => rfl

/-- E above the pending charge (R10). -/
theorem Part.overCharged_iff (p : Part) (energy : Option Nat) :
    p.overCharged energy = true ↔ ∃ c e, p.pendingCharge = some c ∧ energy = some e ∧ c < e := by
  unfold Part.overCharged
  cases p.pendingCharge <;> cases energy <;> simp

/-- The flags of the Emission Monitor at a shot end (R10, R7). -/
theorem Part.chargeShot_flags (p : Part) (energy : Option Nat) :
    (p.chargeShot energy).status.flags = p.status.flags |||
      (if p.overEnergy = false ∧ p.overCharged energy = true then
        Flag.overEnergy.mask ||| (if p.permitted then Flag.laserBlocked.mask else 0) else 0) := by
  cases hc : p.pendingCharge with
  | none => simp [Part.chargeShot, Part.overCharged, hc]
  | some charge =>
    have hover : p.overCharged energy = true ↔ charge < energy.getD charge := by simp [Part.overCharged, hc]
    by_cases hup : p.overEnergy = false ∧ charge < energy.getD charge
    · obtain ⟨hclear, hgt⟩ := hup
      have hset : p.overCharged energy = true := hover.mpr hgt
      rw [Part.chargeShot_latch hc energy hclear hgt rfl]
      cases p.permitted <;> simp [hclear, hset, BitVec.or_assoc]
    · have hlow : p.overEnergy = true ∨ energy.getD charge ≤ charge := by
        rcases not_and_or.mp hup with h | h
        · exact .inl (by simpa using h)
        · exact .inr (by omega)
      have hneg : ¬ (p.overEnergy = false ∧ p.overCharged energy = true) := by rwa [hover]
      rw [Part.chargeShot_level hc energy hlow]
      simp [hneg]

theorem Part.rejectShot_abandoned {p : Part} {x : Shot} (h : x.abandoned = true) (reason : ShotReason) (tag : Option Byte)
    (energy : Option Nat) : p.rejectShot x reason tag energy =
      Part.raise ((p.removeShot.chargeShot energy).setLastEnd (x.ended .rejected reason tag energy)) .shotReject :=
  if_pos h

theorem Part.rejectShot_counted {p : Part} {x : Shot} (h : x.abandoned = false) (reason : ShotReason) (tag : Option Byte)
    (energy : Option Nat) : p.rejectShot x reason tag energy =
      (((p.removeShot.countRejected x.target).raise .shotReject).chargeShot energy).setLastEnd (x.ended .rejected reason tag energy) :=
  if_neg (by rw [h]; decide)

/-- The flags of a rejected shot end (R49, R52, R10). -/
theorem Part.rejectShot_flags (p : Part) (x : Shot) (reason : ShotReason) (tag : Option Byte) (energy : Option Nat) :
    (p.rejectShot x reason tag energy).status.flags = p.status.flags ||| Flag.shotReject.mask |||
      (if p.overEnergy = false ∧ p.overCharged energy = true then
        Flag.overEnergy.mask ||| (if p.permitted then Flag.laserBlocked.mask else 0) else 0) := by
  cases ha : x.abandoned with
  | true =>
    have hcharge := p.removeShot.chargeShot_flags energy
    have hend : (p.rejectShot x reason tag energy).status.flags =
        (p.removeShot.chargeShot energy).status.flags ||| Flag.shotReject.mask := by
      rw [Part.rejectShot_abandoned ha, Part.raise_status_flags]
      rfl
    rw [hend, hcharge, BitVec.or_assoc, BitVec.or_comm _ Flag.shotReject.mask, ← BitVec.or_assoc]
    rfl
  | false =>
    have hcharge := ((p.removeShot.countRejected x.target).raise .shotReject).chargeShot_flags energy
    have hover : ((p.removeShot.countRejected x.target).raise .shotReject).overCharged energy = p.overCharged energy := by
      rw [Part.overCharged, Part.raise_pendingCharge]
      rfl
    have hpermitted : ((p.removeShot.countRejected x.target).raise .shotReject).permitted = p.permitted := by
      simp only [Part.raise_permitted]
      rfl
    rw [hover, hpermitted, Part.raise_overEnergy, Part.raise_status_flags] at hcharge
    rw [Part.rejectShot_counted ha]
    exact hcharge

/-- A shot in flight that times out (R55). -/
theorem exec_recordTimeout {s : State} {limit : Nat} (h : s.port.timer = some limit) {x : Shot} (hx : s.shot = some x) :
    exec .recordTimeout s = .next { s with toPart := s.rejectShot x .timeout none none } := by
  simp only [exec, execRecordTimeout, h, Part.loseShot, hx]

/-- Settles O31: the rejected end is `rejected` up to its flags, and its flags are `rejectShot_flags`. -/
theorem shotEndsRejected : Obligations.ShotEndsRejected := by
  refine ⟨fun s h => ?_, fun s x limit h hx => exec_recordTimeout h hx, fun p x reason tag energy t ht => ?_⟩
  · simp only [exec, execRecordTimeout, h]
  obtain ⟨out, hcore⟩ := (p.rejectShot_like x reason tag energy).core
  rw [Part.rejected_frame, ← ht] at hcore
  have hrx : t.port.rx = p.port.rx.unbind := by rw [hcore]; rfl
  have hflags := p.rejectShot_flags x reason tag energy
  rw [← ht] at hflags
  refine ⟨by rw [hcore]; rfl, by rw [hcore]; rfl, by rw [hcore]; rfl, by rw [hcore]; rfl, by rw [hcore]; rfl, by rw [hcore]; rfl,
    by rw [hcore]; rfl, by rw [hcore]; rfl, by rw [hcore]; rfl, ?_, by rw [hcore]; rfl, fun r hr => by rw [hrx, hr]; rfl,
    fun hr => by rw [hrx, PortRx.unbind_other hr], ?_, fun ha => ?_, fun ha => ?_, fun above habove => ⟨?_, ?_⟩,
    fun q u hq => ?_⟩
  · have hbit : Flag.shotReject.mask.getLsbD 7 = true := by decide
    rw [hflags, BitVec.getLsbD_or, BitVec.getLsbD_or, hbit, Bool.or_true, Bool.true_or]
  · have hbucket : t.bucket = p.chargedBucket energy := by rw [hcore]; rfl
    rw [hbucket, Part.chargedBucket]
    cases p.pendingCharge <;> rfl
  · have hbanks : t.banks = if x.abandoned then p.banks else (p.countRejected x.target).banks := by rw [hcore]; rfl
    rw [hbanks, if_pos ha]
  · have hbanks : t.banks = if x.abandoned then p.banks else (p.countRejected x.target).banks := by rw [hcore]; rfl
    rw [hbanks, if_neg (by rw [ha]; decide)]
    rfl
  · have hover : t.overEnergy = (p.overEnergy || p.overCharged energy) := by rw [hcore]; rfl
    rw [hover, Bool.eq_iff_iff.mpr ((p.overCharged_iff energy).trans habove.symm)]
  · rw [hflags, Bool.eq_iff_iff.mpr ((p.overCharged_iff energy).trans habove.symm)]
  · have hremoved : p.removeShot = q := by
      rw [hq, Part.removeShot]
      cases p.port.rx <;> rfl
    refine ⟨fun ha hu => ?_, fun ha hu => ?_⟩
    · have hcounted : q.countRejected x.target = { q with
          banks := p.banks.set x.target { p.banks[x.target] with rejected := min (p.banks[x.target].rejected + 1) 65535 } } := by
        rw [← hremoved]
        rfl
      rw [ht, Part.rejectShot_counted ha, hremoved, hcounted, ← hu]
      rfl
    · have hlast : t.port.lastEnd = some (x.ended .rejected reason tag energy) := by rw [hcore]; rfl
      rw [hlast, hu, ht, Part.rejectShot_abandoned ha, hremoved]
      rfl

/-! ### The verdict -/

section
variable {p : Part} {r : Record} {w : LineWord} {x : Shot}

theorem Part.judge_orphan (h : r.bound ≠ .inFlight ∨ p.shot = none) : p.judge r w = p.raise .shotReject := by
  unfold Part.judge
  split
  · next hb hs => exact absurd h (by simp [hb, hs])
  · rfl

/-- The checks in their order (R48). -/
theorem Part.judge_bound (hs : p.shot = some x) (hb : r.bound = .inFlight) : p.judge r w =
    if !r.sumMatches w then p.rejectShot x .check none none
    else if r.formatBad then p.rejectShot x .format (some r.tag) (some r.energy)
    else if r.digFault then p.rejectShot x .fault (some r.tag) (some r.energy)
    else if r.tag ≠ x.expectedTag then (p.rejectShot x .tag (some r.tag) (some r.energy)).resyncTag r.tag
    else if x.abandoned then p.endAbandoned x r
    else p.acceptShot x r := by
  simp only [Part.judge, hb, hs]

theorem Record.sumMatches_iff : r.sumMatches w = true ↔ w = .good r.sum ∧ r.corrupt = false := by
  cases w <;> simp [Record.sumMatches, and_comm]

theorem Record.formatBad_iff : r.formatBad = true ↔ r.sampleCount ≠ 4096 ∨ r.preCount ≠ 64 ∨ r.outOfRange = true := by
  simp [Record.formatBad, or_assoc]

/-- A word at a LOCKED port goes on to the receiver, unless it is the fourth bad one in a row (R42). -/
theorem Part.takeWord_locked {n : Nat} (h : p.port.lock = .locked n) (hn : w = .bad → n < 3) :
    p.takeWord w = (p.setLock (if w = .bad then .locked (n + 1) else .locked 0)).receiveWord w := by
  cases w with
  | good v => simp only [Part.takeWord, h]; rfl
  | bad =>
    have hlt : ¬ n + 1 ≥ 4 := by have := hn rfl; omega
    simp only [Part.takeWord, h, if_neg hlt]
    rfl

/-- The word at the last position is judged as the check word (R46, R48). -/
theorem Part.receiveWord_check (hrx : p.port.rx = .record r) (hlen : r.words.length = 4101) : p.receiveWord w = (p.setRx .hunt).judge r w := by
  have hpos : r.position + 1 ≥ recordWords := by rw [Record.position, hlen]; decide
  simp only [Part.receiveWord, hrx, if_pos hpos]
end

/-- Settles O30: the checks of judge_bound, one after the other. -/
theorem recordVerdict : Obligations.RecordVerdict := by
  intro s n r w q hlock hrx hlen hw hq
  have hexec : exec (.wordEvent w) s = .next { s with toPart := q.judge r w } := by
    have htake : s.toPart.takeWord w = q.judge r w := by
      rw [Part.takeWord_locked hlock hw, Part.receiveWord_check (by exact hrx) hlen, hq]
      rfl
    rw [← htake]
    rfl
  have hshot : q.shot = s.shot := by rw [hq]
  have hremoved : q.removeShot = { q with shot := none, port := { q.port with timer := none } } := by rw [hq]; rfl
  refine ⟨fun h => ?_, fun x sound hx hb hsound => ?_⟩
  · rw [hexec, Part.judge_orphan (by rw [hshot]; exact h)]
  have hmatch : r.sumMatches w = sound := Bool.eq_iff_iff.mpr (Record.sumMatches_iff.trans hsound.symm)
  rw [hexec, Part.judge_bound (hshot.trans hx) hb, hmatch]
  refine ⟨fun h => ?_, fun h hbad => ?_, fun h h1 h2 h3 hfault => ?_, fun t h h1 h2 h3 hfault => ?_⟩
  · rw [h, if_pos (by decide)]
  · rw [h, if_neg (by decide), if_pos (Record.formatBad_iff.mpr hbad)]
  · have hformat : ¬ r.formatBad = true := by rw [Record.formatBad_iff]; simp [h1, h2, h3]
    rw [h, if_neg (by decide), if_neg hformat, if_pos hfault]
  · have hformat : ¬ r.formatBad = true := by rw [Record.formatBad_iff]; simp [h1, h2, h3]
    rw [h, if_neg (by decide), if_neg hformat, if_neg (by rw [hfault]; decide)]
    refine ⟨fun htag ht => ?_, fun htag ha ht => ?_, fun u htag ha ht hu => ?_⟩
    · rw [if_pos htag, ← ht]
      rfl
    · rw [if_neg (not_not.mpr htag), if_pos ha, Part.endAbandoned, hremoved, ← ht]
      rfl
    · rw [if_neg (not_not.mpr htag), if_neg (by rw [ha]; decide), Part.acceptShot, hremoved, ← ht]
      have haccumulate : t.accumulate x r = { t with banks := t.banks.set x.target (t.banks[x.target].add t.gates r x.kind t.ticks) } := rfl
      rw [haccumulate, ← hu]
      rfl

end Sys2Proof.Machine

/-! Lock and receiver of the sample port (R41 to R46): single words, and a whole record. -/

namespace Sys2Proof.Machine

/-! ### Words from symbols -/

theorem toNat_append_byte (a b : Byte) : (a ++ b : BitVec 16).toNat = a.toNat * 256 + b.toNat := by
  rw [← ofBe_pair]
  simp [ofBe]

theorem wordOfSymbols_good_iff (hi lo : LineSymbol) (v : Word16) : wordOfSymbols hi lo = .good v ↔
    ∃ a b : Byte, hi.byte? = some a ∧ lo.byte? = some b ∧ v.toNat = a.toNat * 256 + b.toNat := by
  refine ⟨fun h => ?_, fun ⟨a, b, ha, hb, hv⟩ => ?_⟩
  · unfold wordOfSymbols at h
    split at h
    · next a b ha hb =>
      cases h
      exact ⟨a, b, ha, hb, toNat_append_byte a b⟩
    · cases h
  · rw [wordOfSymbols_good hi lo a b ha hb]
    exact congrArg _ (BitVec.eq_of_toNat_eq ((toNat_append_byte a b).trans hv.symm))

theorem deliveredWords_flatMap (vs : List Word16) : deliveredWords (vs.flatMap wordSymbols) = vs.map .good := by
  induction vs with
  | nil => rfl
  | cons v rest ih => rw [List.flatMap_cons, deliveredWords_wordSymbols, ih, List.map_cons]

/-! ### The receiver outside a record -/

section
variable {p : Part}

/-- While settling, idle words are counted and any other word starts again (R44). -/
theorem Part.receiveWord_settle {m : Nat} (h : p.port.rx = .settle m) (w : LineWord) :
    p.receiveWord w = if w = .good 0 then p.setRx (if m + 1 ≥ 4 then .hunt else .settle (m + 1)) else p.setRx (.settle 0) := by
  simp only [Part.receiveWord, h]
  rfl

theorem Part.receiveWord_hunt_bad (h : p.port.rx = .hunt) : p.receiveWord .bad = p := by
  simp only [Part.receiveWord, h]

theorem Part.receiveWord_hunt_sync (h : p.port.rx = .hunt) :
    p.receiveWord (.good 0x3C5A) = p.setRx (.record (Record.begun p.bindingNow)) := by
  simp only [Part.receiveWord, h]
  rfl

/-- In HUNT an idle word changes nothing, and any other word but SYNC brings back settling (R44). -/
theorem Part.receiveWord_hunt_other (h : p.port.rx = .hunt) {v : Word16} (hv : v ≠ 0x3C5A) :
    p.receiveWord (.good v) = p.setRx (if v = 0 then .hunt else .settle 0) := by
  simp only [Part.receiveWord, h]
  rw [if_neg (by exact hv)]
  by_cases h0 : v = 0
  · rw [if_pos (by exact h0), if_pos h0, ← h]
    rfl
  · rw [if_neg (by exact h0), if_neg h0]

/-- Inside a record a word takes the next position (R46). -/
theorem Part.receiveWord_record {r : Record} (h : p.port.rx = .record r) (hlen : r.words.length < 4101) (w : LineWord) :
    p.receiveWord w = p.setRx (.record (r.take w)) := by
  have hpos : ¬ r.position + 1 ≥ recordWords := by rw [Record.position, recordWords]; omega
  simp only [Part.receiveWord, h, if_neg hpos]

/-- The loss of lock (R43) leaves a VALID dark reference STALE. -/
theorem Part.staleDark_eq (p : Part) : p.staleDark = { p with engine := { p.engine with dark := { p.engine.dark with
    state := if p.engine.dark.state = .none then .none else .stale } } } := by
  cases hd : p.engine.dark.state with
  | valid =>
    rw [Part.staleDark, if_pos hd]
    rfl
  | none | stale =>
    rw [Part.staleDark, if_neg (by rw [hd]; decide)]
    simp only [reduceCtorEq, if_true, if_false]
    rw [← hd]
end

/-- Settles O28: a word acts on the lock and then on the receiver as it stands. -/
theorem lockAndReceiver : Obligations.LockAndReceiver := by
  refine ⟨⟨byte?_symbolOf, rfl⟩, fun hi lo => ⟨wordOfSymbols_bad hi lo, wordOfSymbols_good_iff hi lo, fun s => rfl⟩,
    fun p hi lo rest => ⟨rfl, rfl⟩, fun p vs => ?_, fun s n v => ⟨fun hlock => ⟨?_, fun hn => ?_, fun q hn hq => ?_⟩,
    fun hlock hn => ⟨fun m hrx => ?_, fun hrx => ?_⟩, fun hlock => ⟨fun m hrx => ?_, fun hrx hv => ?_, fun hrx hv => ?_⟩,
    fun q hlock hn hq => ?_⟩⟩
  · rw [Part.takeSymbols, deliveredWords_flatMap]
  · simp only [exec, execWordEvent, Part.takeWord, hlock]
    rfl
  · have hlt : ¬ n + 1 ≥ 16 := by omega
    simp only [exec, execWordEvent, Part.takeWord, hlock, if_neg hlt]
    rfl
  · have hge : n + 1 ≥ 16 := by omega
    have hq' : (s.toPart.setLock (.locked 0)).raise .lockChange = q := hq.symm
    simp only [exec, execWordEvent, Part.takeWord, hlock, if_pos hge, hq']
    rw [Part.receiveWord_settle rfl]
    by_cases hv : v = 0
    · rw [if_pos (congrArg _ hv), if_pos hv]
      rfl
    · rw [if_neg (fun h => hv (LineWord.good.inj h)), if_neg hv]
      rfl
  · have htake : s.toPart.takeWord .bad = (s.toPart.setLock (.locked (n + 1))).receiveWord .bad := Part.takeWord_locked hlock fun _ => hn
    have hreceive := Part.receiveWord_settle (p := s.toPart.setLock (.locked (n + 1))) hrx .bad
    simp only [exec, execWordEvent, htake, hreceive]
    rfl
  · have htake : s.toPart.takeWord .bad = (s.toPart.setLock (.locked (n + 1))).receiveWord .bad := Part.takeWord_locked hlock fun _ => hn
    simp only [exec, execWordEvent, htake, Part.receiveWord_hunt_bad (p := s.toPart.setLock (.locked (n + 1))) hrx]
    rfl
  all_goals have hgood : ∀ v, s.port.lock = .locked n → s.toPart.takeWord (.good v) = (s.toPart.setLock (.locked 0)).receiveWord (.good v) :=
    fun v hlock => Part.takeWord_locked hlock nofun
  · simp only [exec, execWordEvent, hgood v hlock, Part.receiveWord_settle (p := s.toPart.setLock (.locked 0)) hrx]
    by_cases hv : v = 0
    · rw [if_pos (congrArg _ hv), if_neg (not_not.mpr hv)]
      by_cases hm : m < 3
      · rw [if_neg (by omega), if_pos hm]
        rfl
      · rw [if_pos (by omega), if_neg hm]
        rfl
    · rw [if_neg (fun h => hv (LineWord.good.inj h)), if_pos hv]
      rfl
  · simp only [exec, execWordEvent, hgood v hlock, Part.receiveWord_hunt_other (p := s.toPart.setLock (.locked 0)) hrx hv]
    rfl
  · have hbinding : (s.toPart.setLock (.locked 0)).bindingNow = if s.shot = none then .none else .inFlight := by
      rw [Part.bindingNow]
      show (if s.shot.isSome then _ else _) = _
      cases s.shot <;> rfl
    subst hv
    simp only [exec, execWordEvent, hgood _ hlock, Part.receiveWord_hunt_sync (p := s.toPart.setLock (.locked 0)) hrx, hbinding]
    rfl
  · have hge : n + 1 ≥ 4 := by omega
    have hlocked : (s.toPart.setLock (.unlocked 0)).raise .lockChange = q := hq.symm
    have hshot : (q.setRx .off).shot = s.shot := by
      rw [hq]
      simp [Part.setRx]
    have htake : s.toPart.takeWord .bad = ((q.setRx .off).loseShot .lost).staleDark := by
      simp only [Part.takeWord, hlock, if_pos hge, hlocked, Part.lockLoss]
    refine ⟨fun hx => ?_, fun x r hx hr => ?_⟩
    · have hlose : (q.setRx .off).loseShot .lost = q.setRx .off := by rw [Part.loseShot, hshot, hx]
      simp only [exec, execWordEvent, htake, hlose, Part.staleDark_eq]
      rfl
    · have hlose : (q.setRx .off).loseShot .lost = r := by
        rw [Part.loseShot, hshot, hx, hr]
        rfl
      simp only [exec, execWordEvent, htake, hlose, Part.staleDark_eq]

/-! ### A whole record -/

theorem badTail_append_bad (ws : List LineWord) : badTail (ws ++ [.bad]) = badTail ws + 1 := by
  simp [badTail]

theorem badTail_append_good (ws : List LineWord) (v : Word16) : badTail (ws ++ [.good v]) = 0 := by
  simp [badTail]

/-- A run of words ends in as many bad ones as its bad tail counts. -/
theorem exists_bad_suffix {ws : List LineWord} {k : Nat} (h : k ≤ badTail ws) : ∃ pre, ws = pre ++ List.replicate k .bad := by
  induction k generalizing ws with
  | zero => exact ⟨ws, by simp⟩
  | succ k ih =>
    rcases ws.eq_nil_or_concat' with rfl | ⟨front, w, rfl⟩
    · cases h
    · cases w with
      | good v => rw [badTail_append_good] at h; cases h
      | bad =>
        rw [badTail_append_bad] at h
        obtain ⟨pre, rfl⟩ := ih (Nat.le_of_succ_le_succ h)
        exact ⟨pre, by rw [List.replicate_succ', List.append_assoc]⟩

/-- The record in progress after SYNC and a run of words (R45, R46). -/
def recordOf (bound : Binding) (ws : List LineWord) : Record := ws.foldl Record.take (Record.begun bound)

theorem recordOf_append (bound : Binding) (ws : List LineWord) (w : LineWord) :
    recordOf bound (ws ++ [w]) = (recordOf bound ws).take w := by
  rw [recordOf, List.foldl_append]
  rfl

section
variable (bound : Binding) (ws : List LineWord)

theorem recordOf_words : (recordOf bound ws).words = some 0x3C5A :: ws.map wordValue := by
  induction ws using List.reverseRecOn with
  | nil => rfl
  | append_singleton ws w ih => cases w <;> simp [recordOf_append, Record.take, ih, wordValue]

theorem recordOf_position : (recordOf bound ws).position = ws.length + 1 := by
  simp [Record.position, recordOf_words]

theorem recordOf_bound : (recordOf bound ws).bound = bound := by
  induction ws using List.reverseRecOn with
  | nil => rfl
  | append_singleton ws w ih => rw [recordOf_append, Record.bound_take, ih]

theorem recordOf_corrupt : (recordOf bound ws).corrupt = true ↔ .bad ∈ ws := by
  induction ws using List.reverseRecOn with
  | nil => simp [recordOf, Record.begun]
  | append_singleton ws w ih => cases w <;> simp [recordOf_append, Record.take, ih]

theorem recordOf_sum : (recordOf bound ws).sum.toNat = ((ws.filterMap wordValue).map BitVec.toNat).sum % 65536 := by
  induction ws using List.reverseRecOn with
  | nil => rfl
  | append_singleton ws w ih => cases w <;> simp [recordOf_append, Record.take, ih, wordValue, BitVec.toNat_add, List.filterMap_cons]

theorem getElem?_append_singleton_iff {α : Type} (xs : List α) (x y : α) (j : Nat) :
    (xs ++ [x])[j]? = some y ↔ xs[j]? = some y ∨ (j = xs.length ∧ x = y) := by
  rcases Nat.lt_trichotomy j xs.length with h | rfl | h
  · simp [List.getElem?_append_left h, Nat.ne_of_lt h]
  · simp
  · simp [List.getElem?_eq_none_iff.mpr (Nat.le_of_lt h), List.getElem?_append_right (Nat.le_of_lt h), Nat.ne_of_gt h,
      Nat.sub_ne_zero_of_lt h]

theorem recordOf_outOfRange :
    (recordOf bound ws).outOfRange = true ↔ ∃ j v, 4 ≤ j ∧ ws[j]? = some (.good v) ∧ 16383 < v.toNat := by
  induction ws using List.reverseRecOn with
  | nil => simp [recordOf, Record.begun]
  | append_singleton ws w ih =>
    simp only [recordOf_append, getElem?_append_singleton_iff]
    cases w with
    | bad => simp [Record.take, ih]
    | good u =>
      have hpos : 6 ≤ (recordOf bound ws).position + 1 ↔ 4 ≤ ws.length := by rw [recordOf_position]; omega
      simp only [Record.take, Bool.or_eq_true, Bool.and_eq_true, decide_eq_true_eq, ih, hpos, fullScale, LineWord.good.injEq]
      constructor
      · rintro (⟨j, v, hj, hw, hv⟩ | ⟨hj, hv⟩)
        · exact ⟨j, v, hj, .inl hw, hv⟩
        · exact ⟨_, u, hj, .inr ⟨rfl, rfl⟩, of_decide_eq_true hv⟩
      · rintro ⟨j, v, hj, hw | ⟨rfl, rfl⟩, hv⟩
        · exact .inl ⟨j, v, hj, hw, hv⟩
        · exact .inr ⟨hj, decide_eq_true hv⟩

theorem recordOf_clips (i : Nat) : i ∈ (recordOf bound ws).clips ↔ ∃ v, ws[68 + i]? = some (.good v) ∧ v.toNat = 16383 := by
  induction ws using List.reverseRecOn with
  | nil => simp [recordOf, Record.begun]
  | append_singleton ws w ih =>
    simp only [recordOf_append, getElem?_append_singleton_iff]
    cases w with
    | bad => simp [Record.take, ih]
    | good u =>
      have hnoted : i ∈ ((recordOf bound ws).take (.good u)).clips ↔
          i ∈ (recordOf bound ws).clips ∨ (68 + i = ws.length ∧ u.toNat = 16383) := by
        simp only [Record.take, recordOf_position, fullScale]
        split
        · next h =>
          rw [List.mem_append, List.mem_singleton]
          refine or_congr_right ⟨fun hi => ⟨by omega, h.2⟩, fun hi => by omega⟩
        · next h => exact ⟨.inl, fun hi => hi.resolve_right fun hi => h ⟨by omega, hi.2⟩⟩
      simp only [hnoted, ih, LineWord.good.injEq]
      constructor
      · rintro (⟨v, hw, hv⟩ | ⟨hi, hu⟩)
        · exact ⟨v, .inl hw, hv⟩
        · exact ⟨u, .inr ⟨hi, rfl⟩, hu⟩
      · rintro ⟨v, hw | ⟨hi, rfl⟩, hv⟩
        · exact .inl ⟨v, hw, hv⟩
        · exact .inr ⟨hi, hv⟩

/-- The word at a position behind SYNC (R46). -/
theorem recordOf_wordAt {j : Nat} {v : Word16} (h : ws[j]? = some (.good v)) : (recordOf bound ws).wordAt (j + 2) = v := by
  rw [Record.wordAt, recordOf_words]
  simp [h, wordValue]
end

/-- The part inside a record, after a run of words. -/
def Part.recording (p : Part) (bound : Binding) (ws : List LineWord) : Part :=
  { p with port := { p.port with lock := .locked (badTail ws), rx := .record (recordOf bound ws) } }

/-- A word that is not the fourth bad one in a row leaves the part LOCKED with the bad tail counted. -/
theorem Part.takeWord_recording {p : Part} {bound : Binding} {ws : List LineWord} {w : LineWord} (h : w = .bad → badTail ws < 3) :
    (p.recording bound ws).takeWord w = ((p.recording bound ws).setLock (.locked (badTail (ws ++ [w])))).receiveWord w := by
  rw [Part.takeWord_locked rfl h]
  cases w with
  | good v => rw [if_neg nofun, badTail_append_good]
  | bad => rw [if_pos rfl, badTail_append_bad]

/-- The words of a record, taken one by one. -/
theorem Part.foldl_takeWord_recording (p : Part) (bound : Binding) (ws : List LineWord) (hlen : ws.length ≤ 4100)
    (hbad : ∀ pre post, ws ≠ pre ++ [.bad, .bad, .bad, .bad] ++ post) :
    ws.foldl Part.takeWord (p.recording bound []) = p.recording bound ws := by
  induction ws using List.reverseRecOn with
  | nil => rfl
  | append_singleton ws w ih =>
    rw [List.length_append, List.length_singleton] at hlen
    rw [List.foldl_append, ih (by omega) fun pre post h => hbad pre (post ++ [w]) (by rw [h, List.append_assoc]),
      List.foldl_cons, List.foldl_nil, Part.takeWord_recording, Part.receiveWord_record rfl]
    · rw [← recordOf_append]
      rfl
    · have hpos := recordOf_position bound ws
      rw [Record.position] at hpos
      omega
    · rintro rfl
      by_contra hge
      obtain ⟨pre, hpre⟩ := exists_bad_suffix (Nat.not_lt.mp hge)
      exact hbad pre [] (by rw [hpre]; simp)

/-- Settles O29: SYNC opens the record, its words build `recordOf`, the check word brings the verdict. -/
theorem wholeRecordIsJudged : Obligations.WholeRecordIsJudged := by
  intro p q n ws check hlock hrx hlen hbad hq
  obtain ⟨bound, hbound⟩ : ∃ b, b = p.bindingNow := ⟨_, rfl⟩
  have hbinding : bound = if p.shot = none then .none else .inFlight := by
    rw [hbound, Part.bindingNow]
    cases p.shot <;> rfl
  have hsync : p.takeWord (.good 0x3C5A) = p.recording bound [] := by
    have hlocked : p.takeWord (.good 0x3C5A) = (p.setLock (.locked 0)).receiveWord (.good 0x3C5A) := Part.takeWord_locked hlock nofun
    rw [hlocked, Part.receiveWord_hunt_sync (by exact hrx), hbound]
    rfl
  have hwords : ws.foldl Part.takeWord (p.recording bound []) = p.recording bound ws :=
    p.foldl_takeWord_recording bound ws (Nat.le_of_eq hlen) fun pre post h => hbad pre (post ++ [check]) (by rw [h, List.append_assoc])
  have htail : check = .bad → badTail ws < 3 := by
    rintro rfl
    by_contra hge
    obtain ⟨pre, hpre⟩ := exists_bad_suffix (Nat.not_lt.mp hge)
    exact hbad pre [] (by rw [hpre]; simp)
  have hcheck : (p.recording bound ws).takeWord check = q.judge (recordOf bound ws) check := by
    rw [Part.takeWord_recording htail, Part.receiveWord_check (by rfl) (by rw [recordOf_words, List.length_cons, List.length_map, hlen]),
      hq, ← hrx]
    rfl
  refine ⟨recordOf bound ws, ?_, recordOf_words bound ws, recordOf_corrupt bound ws, (recordOf_bound bound ws).trans hbinding,
    recordOf_sum bound ws, recordOf_outOfRange bound ws, recordOf_clips bound ws, fun v hv => ?_, fun v hv => ?_, fun v hv => ?_,
    fun v hv => ?_, fun x hx hfault => ?_⟩
  · rw [List.foldl_append, List.foldl_append, List.foldl_cons, List.foldl_nil, List.foldl_cons, List.foldl_nil, hsync, hwords]
    exact hcheck
  · rw [Record.tag, Record.digFault, recordOf_wordAt bound ws hv]
    exact ⟨BitVec.setWidth_eq_extractLsb' (by decide), rfl⟩
  · rw [Record.energy, recordOf_wordAt bound ws hv]
  · rw [Record.sampleCount, recordOf_wordAt bound ws hv]
  · rw [Record.preCount, recordOf_wordAt bound ws hv]
  · have hshot : q.shot = some x := by rw [hq]; exact hx
    have hinflight : (recordOf bound ws).bound = .inFlight := by rw [recordOf_bound, hbinding, hx]; rfl
    have hsum : (recordOf bound ws).sumMatches check = false := by
      rw [Bool.eq_false_iff, ne_eq, Record.sumMatches_iff]
      rintro ⟨rfl, hclean⟩
      have hbad := (recordOf_corrupt bound ws).mpr (hfault.resolve_right nofun)
      rw [hclean] at hbad
      cases hbad
    rw [Part.judge_bound hshot hinflight, hsum, if_pos (by decide)]

end Sys2Proof.Machine

/-! The track table and its report (R119 to R132). -/

namespace Sys2Proof.Machine

/-! ### Matching and the change of one track -/

/-- The step towards an observation is at most the whole way, and in its direction (R79, R124). -/
theorem roundDiv_between (a : Int) {b : Nat} (hb : 1 ≤ b) : min 0 a ≤ roundDiv a b ∧ roundDiv a b ≤ max 0 a := by
  have hle : (roundDiv a b).natAbs ≤ a.natAbs := roundDiv_natAbs_le hb (Nat.le_mul_of_pos_right _ hb)
  rcases Int.le_total 0 a with h | h
  · have := roundDiv_nonneg b h
    omega
  · have := roundDiv_nonpos b h
    omega

/-- The base of a matched track moves towards the observed one (R124). -/
theorem Track.matched_base (t : Track) (e : TrackerEntry) (c : Fin 4) (sp : Nat) (d : Detection) :
    ((t.matched e c sp d).base : Int) = t.base + roundDiv ((d.base : Int) - t.base) (2 ^ e.shift) ∧
      min t.base d.base ≤ (t.matched e c sp d).base ∧ (t.matched e c sp d).base ≤ max t.base d.base ∧
      (e.shift = 0 → (t.matched e c sp d).base = d.base) := by
  have hbase : (t.matched e c sp d).base = ((t.base : Int) + roundDiv ((d.base : Int) - t.base) (2 ^ e.shift)).toNat := rfl
  obtain ⟨hlo, hhi⟩ := roundDiv_between ((d.base : Int) - t.base) (Nat.two_pow_pos e.shift)
  have hwhole : e.shift = 0 → roundDiv ((d.base : Int) - t.base) (2 ^ e.shift) = (d.base : Int) - t.base := fun h => by
    have hone := roundDiv_mul ((d.base : Int) - t.base) (Nat.le_refl 1)
    simpa [h] using hone
  rw [hbase]
  generalize roundDiv ((d.base : Int) - t.base) (2 ^ e.shift) = r at *
  refine ⟨by omega, by omega, by omega, fun h => ?_⟩
  have := hwhole h
  omega

section
variable {t : Track} {e : TrackerEntry} {c : Fin 4}

theorem Track.missed_other (h : t.owner ≠ c) : t.missed e c = some t := if_pos h

theorem Track.missed_tentative (h : t.owner = c) (hs : t.state = .tentative) : t.missed e c = none := by
  rw [Track.missed, if_neg (not_not.mpr h), hs]

theorem Track.missed_standing (h : t.owner = c) (hs : t.state ≠ .tentative) : t.missed e c =
    if e.dropMisses ≤ min (t.misses + 1) 15 then none else some { t with state := .coasting, misses := min (t.misses + 1) 15 } := by
  rw [Track.missed, if_neg (not_not.mpr h)]
  cases hst : t.state with
  | tentative => exact absurd hst hs
  | confirmed | coasting => rfl
end

theorem Track.stale_iff {t : Track} {e : TrackerEntry} {sp : Nat} (hsp : sp < 65536) (ht : t.lastPass < 65536) :
    t.stale e sp = true ↔ e.staleLimit < if t.lastPass ≤ sp then sp - t.lastPass else sp + 65536 - t.lastPass := by
  rw [Track.stale, decide_eq_true_eq]
  split <;> omega

/-- Settles O41: the chosen track is bestMatch_spec's, the base is matched_base's, the rest case by case. -/
theorem trackMatchAndChange : Obligations.TrackMatchAndChange := by
  refine ⟨fun gate h ts => ?_, fun t e c sp d => ⟨t.matched_base e c sp d, ⟨rfl, rfl, rfl, rfl, rfl, rfl, rfl, rfl, rfl⟩, fun hs => ?_,
    fun hs => ?_, Track.missed_other, Track.missed_tentative, fun ho hs hd => ?_, fun ho hs hd => ?_, Track.stale_iff⟩⟩
  · simp only [← Track.distance_eq]
    exact bestMatch_spec gate h ts
  · simp only [Track.matched, hs, true_and]
  · simp only [Track.matched, hs, false_and, if_false]
  · rw [Track.missed_standing ho hs, if_pos hd]
  · rw [Track.missed_standing ho hs, if_neg (Nat.not_le.mpr hd)]

/-! ### The sorting pass -/

/-- With room for every track and detection none is discarded (R126). -/
theorem Sky.pass_room {y : Sky} (h : y.fits) (e : TrackerEntry) (c : Fin 4) {ds : List Detection} (hroom : y.tracks.length + ds.length ≤ 8) :
    (y.pass e c ds).2 = false := by
  obtain ⟨-, -, hun, hlen⟩ := matchAll_inPass (e := e) (Nat.mod_lt (y.sp + 1) (by decide : 0 < 65536)) ds
    { rest := y.tracks, fresh := [], unmatched := [] } (List.Subset.refl ds) (List.nil_subset ds) (h.inPass c _ ds)
  simp only [List.length_append, List.length_nil, Nat.zero_add, Nat.add_zero] at hun hlen
  rw [Sky.pass_eq]
  refine Creation.foldl_discarded e c _ _ _ ?_
  rw [Sky.atCreation]
  dsimp only
  omega

/-- The rise of another flag, and a report placed, leave a flag's bit as it was. -/
theorem Part.placeReport_bit (p : Part) (r : Report) {i : Nat} (hi : Flag.reportReplaced.mask.getLsbD i = false) :
    (p.placeReport r).status.flags.getLsbD i = p.status.flags.getLsbD i := by
  unfold Part.placeReport
  split
  · rw [Part.kick_status_flags]
  · rw [Part.raise_status_flags, Part.kick_status_flags, BitVec.getLsbD_or, hi, Bool.or_false]

theorem Part.placeReport_sky (p : Part) (r : Report) : (p.placeReport r).sky = p.sky := by
  unfold Part.placeReport
  split
  · rw [Part.kick_sky]
  · rw [Part.raise_sky, Part.kick_sky]

theorem Part.sortingPass_eq {p : Part} {f : Findings} {c : Fin 4} {y : Sky} {discarded : Bool}
    (h : p.sky.pass p.tracker c f.detections = (y, discarded)) (b : Bank) (flags : BitVec 16) : p.sortingPass c b flags f =
      Part.placeReport (if discarded then Part.raise { p with sky := y } .trackFull else { p with sky := y })
        (buildReport c b flags f y) := by
  rw [Part.sortingPass, h]

/-- Settles O42: the pass by the facts about its steps, the part by sortingPass_eq. -/
theorem sortingPass : Obligations.SortingPass := by
  refine ⟨fun y e c ds hy => ⟨rfl, hy.pass e c ds, fun t ht => (Sky.mem_pass hy ht).2.1, fun t ht => ?_, fun t ht hsp hold => ?_,
    fun hnil => ?_, Sky.pass_room hy e c⟩, fun y e c ds sp m k hsp hm hk => ?_, fun e c sp d ds m => ⟨rfl, fun h => ?_, fun t h => ?_⟩,
    fun e c sp k d => ⟨fun id hroom hid => ?_, fun v hfull hv => ?_, Creation.place_none e c sp d⟩, victim_spec, freeId_free,
    fun p c b flags f y discarded h => ⟨Part.sortingPass_eq h b flags, ?_, ?_⟩⟩
  · obtain ⟨-, -, hpass | ⟨o, ho, hmiss⟩⟩ := Sky.mem_pass hy ht
    · exact .inl hpass.1
    · exact .inr ⟨o, ho, (Track.missed_id hmiss).symm, hmiss⟩
  · obtain ⟨-, -, hpass | ⟨o, ho, hmiss⟩⟩ := Sky.mem_pass hy ht
    · exact hpass.2
    · exact absurd ((Track.missed_lastPass hmiss).symm.trans hsp) (hold o ho)
  · subst hnil
    exact ⟨rfl, rfl⟩
  · subst hsp hm hk
    rfl
  · rw [matchAll, h]
  · rw [matchAll, h]
  · subst hid
    rw [Creation.place_room e c sp d hroom]
    rfl
  · obtain ⟨hplace, hroom⟩ := Creation.place_full e c sp d hfull hv
    rw [hplace, Creation.place_room e c sp d (by exact hroom)]
  · rw [Part.sortingPass_eq h, Part.placeReport_sky]
    cases discarded with
    | true => exact Part.raise_sky _ _
    | false => rfl
  · have hfull : Flag.trackFull.mask.getLsbD 13 = true := by decide
    rw [Part.sortingPass_eq h, Part.placeReport_bit _ _ (by decide)]
    cases discarded with
    | true => simp [hfull]
    | false => simp

/-! ### The report -/

/-- Lower base first, then lower id (R131). -/
def Track.belowOrEqual (a b : Track) : Prop := a.base < b.base ∨ (a.base = b.base ∧ a.id ≤ b.id)

theorem Track.belowOrEqual_total (a b : Track) : a.belowOrEqual b ∨ b.belowOrEqual a := by
  unfold Track.belowOrEqual
  omega

theorem Track.belowOrEqual_trans {a b c : Track} (hab : a.belowOrEqual b) (hbc : b.belowOrEqual c) : a.belowOrEqual c := by
  unfold Track.belowOrEqual at *
  omega

theorem insertByBase_perm (t : Track) (us : List Track) : (insertByBase t us).Perm (t :: us) := by
  induction us with
  | nil => exact .refl _
  | cons u rest ih =>
    rw [insertByBase]
    split
    · exact .refl _
    · exact (ih.cons u).trans (.swap t u rest)

theorem insertByBase_pairwise (t : Track) {us : List Track} (h : us.Pairwise Track.belowOrEqual) :
    (insertByBase t us).Pairwise Track.belowOrEqual := by
  induction us with
  | nil => exact List.pairwise_singleton _ _
  | cons u rest ih =>
    obtain ⟨hu, hrest⟩ := List.pairwise_cons.mp h
    rw [insertByBase]
    split
    · next hle =>
      refine List.pairwise_cons.mpr ⟨fun x hx => ?_, h⟩
      rcases List.mem_cons.mp hx with rfl | hx
      · exact hle
      · exact Track.belowOrEqual_trans hle (hu x hx)
    · next hgt =>
      refine List.pairwise_cons.mpr ⟨fun x hx => ?_, ih hrest⟩
      rcases List.mem_cons.mp ((insertByBase_perm t rest).subset hx) with rfl | hx
      · exact (Track.belowOrEqual_total _ _).resolve_left hgt
      · exact hu x hx

theorem sortByBase_perm (ts : List Track) : (sortByBase ts).Perm ts := by
  induction ts with
  | nil => exact .refl _
  | cons t rest ih => exact (insertByBase_perm t _).trans (ih.cons t)

theorem sortByBase_pairwise (ts : List Track) : (sortByBase ts).Pairwise Track.belowOrEqual := by
  induction ts with
  | nil => exact .nil
  | cons t rest ih => exact insertByBase_pairwise t ih

/-- With nothing of higher precedence an IDLE scheduler begins the report (R152, R153). -/
theorem Part.beginFrame_report {p : Part} {r : Report} (hr : p.link.replies = []) (hn : p.status.pendingSet = 0)
    (hp : p.link.reports = [r]) : p.beginFrame = { p with link := { p.link with reports := [], sending := some r.frame } } := by
  simp [Part.beginFrame, hr, hn, hp]

/-- Settles O43: the layers are the head of sortByBase, the place of a report by the queue's length. -/
theorem reportsListTracks : Obligations.ReportsListTracks := by
  refine ⟨fun c b flags f y r hr => ?_, fun p r g hg => ⟨fun hlen => ?_, fun x y hxy => ?_⟩, fun p r hidle hr hn hp => ?_⟩
  · subst hr
    refine ⟨rfl, rfl, rfl, rfl, rfl, rfl, ⟨reportable y.tracks, sortByBase_perm _, sortByBase_pairwise _, rfl⟩, ?_⟩
    rw [← (sortByBase_perm (y.tracks.filter fun t => t.state ≠ .tentative)).length_eq]
    rfl
  · rw [Part.placeReport, if_pos hlen, Part.kick_sending _ (by exact hg)]
  · rw [Part.placeReport, if_neg (by simp [hxy]), Part.kick_sending _ (by exact hg), hxy]
    rfl
  · have hreports : p.link.reports ++ [r] = [r] := by rw [hp]; rfl
    rw [Part.placeReport, if_pos (by rw [hp]; decide), Part.kick_idle _ (by exact hidle),
      Part.beginFrame_report (by exact hr) (by exact hn) (by exact hreports), ← hp]

end Sys2Proof.Machine

/-! The scan over the sort range (R100 to R105): what its record holds, and the extent of each layer. -/

namespace Sys2Proof.Machine

/-! ### Runs without a mark -/

/-- Every run of `n` bins in a row holds a marked one. -/
def NoRun (mark : BinView → Bool) (n : Nat) (bins : List BinView) : Prop :=
  ∀ run, run <:+: bins → run.length = n → ∃ b ∈ run, mark b = true

section
variable {mark : BinView → Bool} {n : Nat} {bins : List BinView}

theorem NoRun.of_part {part : List BinView} (h : NoRun mark n bins) (hpart : part <:+: bins) : NoRun mark n part :=
  fun run hrun => h run (hrun.trans hpart)

theorem NoRun.of_all (hn : 1 ≤ n) (h : ∀ b ∈ bins, mark b = true) : NoRun mark n bins := by
  intro run hrun hlen
  obtain ⟨b, hb⟩ := List.exists_mem_of_length_pos (by omega : 0 < run.length)
  exact ⟨b, hb, h b (hrun.subset hb)⟩

/-- Behind a marked bin there is room for fewer than `n` others. -/
theorem NoRun.append {last : BinView} {tail : List BinView} (h : NoRun mark n (bins ++ [last])) (hlast : mark last = true)
    (hlen : tail.length < n) : NoRun mark n (bins ++ [last] ++ tail) := by
  intro run hrun hn
  rcases List.infix_append_iff.mp hrun with hrun | hrun | ⟨front, back, rfl, hfront, hback⟩
  · exact h run hrun hn
  · have := hrun.length_le
    omega
  · have hshort := hback.length_le
    rcases List.suffix_concat_iff.mp hfront with rfl | ⟨init, rfl, -⟩
    · rw [List.nil_append] at hn
      omega
    · exact ⟨last, by simp, hlast⟩

theorem NoRun.snoc {b : BinView} (h : NoRun mark n bins) (hb : mark b = true) : NoRun mark n (bins ++ [b]) := by
  intro run hrun hn
  rcases List.infix_concat_iff.mp hrun with hsuffix | hinfix
  · rcases List.suffix_concat_iff.mp hsuffix with rfl | ⟨init, rfl, -⟩
    · exact h [] List.nil_infix hn
    · exact ⟨b, by simp, hb⟩
  · exact h run hinfix hn
end

/-! ### Peaks -/

/-- The highest bin of a run, the first of those that are equal (R105). -/
def IsPeak (bins : List BinView) (peak : BinView) : Prop :=
  ∃ before after, bins = before ++ peak :: after ∧ (∀ b ∈ before, b.beta < peak.beta) ∧ ∀ b ∈ after, b.beta ≤ peak.beta

theorem IsPeak.single (b : BinView) : IsPeak [b] b := ⟨[], [], rfl, nofun, nofun⟩

theorem IsPeak.append {bins more : List BinView} {p q : BinView} (hp : IsPeak bins p) (hq : IsPeak more q) :
    IsPeak (bins ++ more) (higher p q) := by
  obtain ⟨a, c, rfl, ha, hc⟩ := hp
  obtain ⟨a', c', rfl, ha', hc'⟩ := hq
  unfold higher
  split
  · next hlt =>
    refine ⟨a ++ p :: c ++ a', c', by simp, fun b hb => ?_, hc'⟩
    simp only [List.mem_append, List.mem_cons] at hb
    rcases hb with (hb | rfl | hb) | hb
    · exact Int.lt_trans (ha b hb) hlt
    · exact hlt
    · exact Int.lt_of_le_of_lt (hc b hb) hlt
    · exact ha' b hb
  · next hle =>
    have hle' := Int.not_lt.mp hle
    refine ⟨a, c ++ (a' ++ q :: c'), by simp, ha, fun b hb => ?_⟩
    simp only [List.mem_append, List.mem_cons] at hb
    rcases hb with hb | hb | rfl | hb
    · exact hc b hb
    · exact Int.le_trans (Int.le_of_lt (ha' b hb)) hle'
    · exact hle'
    · exact Int.le_trans (hc' b hb) hle'

theorem IsPeak.snoc {bins : List BinView} {p : BinView} (hp : IsPeak bins p) (b : BinView) : IsPeak (bins ++ [b]) (higher p b) :=
  hp.append (.single b)

/-! ### What the scan record holds -/

/-- Not below the release level. -/
def BinView.stays (b : BinView) : Bool := !b.below

theorem BinView.stays_of_above {b : BinView} (h : b.above = true) : b.stays = true := by
  rw [BinView.stays, BinView.below]
  rw [BinView.above, Bool.or_eq_true, decide_eq_true_eq] at h
  rcases h with hclip | hup
  · simp [hclip]
  · have : ¬ b.beta < ((b.tc / 2 : Nat) : Int) := by omega
    rw [decide_eq_false this, Bool.and_false]
    rfl

/-- The bins of an open layer, from its base on: it opens with a run above threshold, and no run of m_out bins below the release
level has closed it (R102, R103). -/
structure Opened (f : FinderEntry) (base : BinView) (bins : List BinView) : Prop where
  first : ∃ tail, bins = base :: tail
  opens : ∃ run tail, bins = run ++ tail ∧ run.length = max 1 f.mIn ∧ ∀ b ∈ run, b.above = true
  unbroken : NoRun BinView.stays (max 1 f.mOut) bins

theorem Opened.append {f : FinderEntry} {base : BinView} {bins : List BinView} (h : Opened f base bins) (more : List BinView)
    (hrun : NoRun BinView.stays (max 1 f.mOut) (bins ++ more)) : Opened f base (bins ++ more) := by
  obtain ⟨⟨tail, htail⟩, ⟨run, rest, hopens, hlen, habove⟩, -⟩ := h
  exact ⟨⟨tail ++ more, by rw [htail]; rfl⟩, ⟨run, rest ++ more, by rw [hopens, List.append_assoc], hlen, habove⟩, hrun⟩

/-- What the scan record says of the bins seen so far (R100 to R103, R105). -/
def Scan.Fits (f : FinderEntry) (seen : List BinView) : Scan → Prop
  | .clear => True
  | .rising base run peak => ∃ pre rise, seen = pre ++ rise ∧ (∃ tail, rise = base :: tail) ∧ rise.length = run ∧ run < f.mIn ∧
      (∀ b ∈ rise, b.above = true) ∧ IsPeak rise peak
  | .inLayer base last peak => ∃ pre init, seen = pre ++ (init ++ [last]) ∧ Opened f base (init ++ [last]) ∧ last.below = false ∧
      IsPeak (init ++ [last]) peak
  | .falling base top run peak held => ∃ pre init tail, seen = pre ++ (init ++ [top] ++ tail) ∧ Opened f base (init ++ [top]) ∧
      top.below = false ∧ IsPeak (init ++ [top]) peak ∧ tail.length = run ∧ run < max 1 f.mOut ∧ (∀ b ∈ tail, b.below = true) ∧
      IsPeak tail held

/-- A layer in its place in the range: the bins before it, those of its extent, those after it (R103 to R105). -/
structure Layer.Placed (f : FinderEntry) (bins : List BinView) (l : Layer) (before extent after : List BinView) : Prop where
  whole : bins = before ++ (extent ++ after)
  opened : Opened f l.base extent
  peak : IsPeak extent l.peak
  closed : ∀ t, l.top = some t → (∃ init, extent = init ++ [t]) ∧ t.below = false ∧
    ∃ run rest, after = run ++ rest ∧ run.length = max 1 f.mOut ∧ ∀ b ∈ run, b.below = true
  toEnd : l.top = none → after = []

/-- A layer stands somewhere in the range. -/
def Layer.Stands (f : FinderEntry) (bins : List BinView) (l : Layer) : Prop := ∃ before extent after, l.Placed f bins before extent after

/-- A closed layer stands in any longer range. -/
theorem Layer.Placed.extend {f : FinderEntry} {bins : List BinView} {l : Layer} {before extent after : List BinView} {t : BinView}
    (h : l.Placed f bins before extent after) (ht : l.top = some t) (more : List BinView) : l.Stands f (bins ++ more) := by
  refine ⟨before, extent, after ++ more, by rw [h.whole]; simp only [List.append_assoc], h.opened, h.peak, fun u hu => ?_,
    fun hnone => by rw [ht] at hnone; cases hnone⟩
  obtain ⟨hinit, hbelow, run, rest, hafter, hlen, hrun⟩ := h.closed u hu
  exact ⟨hinit, hbelow, run, rest ++ more, by rw [hafter, List.append_assoc], hlen, hrun⟩

section
variable {f : FinderEntry} {seen : List BinView}

/-- A run above threshold that has just grown by `b` (R102). -/
theorem Scan.rise_fits {base b peak : BinView} {pre rise : List BinView} {run : Nat} (hseen : seen = pre ++ rise)
    (hfirst : ∃ tail, rise = base :: tail) (hlast : ∃ init, rise = init ++ [b]) (hlen : rise.length = run)
    (hrun : run ≤ max 1 f.mIn) (habove : ∀ x ∈ rise, x.above = true) (hpeak : IsPeak rise peak) :
    (Scan.rise f.mIn base b run peak).Fits f seen := by
  unfold Scan.rise
  split
  · next hge =>
    obtain ⟨init, rfl⟩ := hlast
    have hmax : (init ++ [b]).length = max 1 f.mIn := by
      have : 1 ≤ (init ++ [b]).length := by simp
      omega
    have hb : b.stays = true := BinView.stays_of_above (habove b (by simp))
    refine ⟨pre, init, hseen, ⟨hfirst, ⟨_, [], (List.append_nil _).symm, hmax, habove⟩, ?_⟩, by simpa [BinView.stays] using hb, hpeak⟩
    exact NoRun.of_all (Nat.le_max_left _ _) fun x hx => BinView.stays_of_above (habove x hx)
  · next hlt => exact ⟨pre, rise, hseen, hfirst, hlen, Nat.not_le.mp hlt, habove, hpeak⟩

/-- A run below the release level that has just grown (R103). -/
theorem Scan.fall_fits {base top peak held : BinView} {pre init tail : List BinView} {run : Nat}
    (hseen : seen = pre ++ (init ++ [top] ++ tail)) (hopen : Opened f base (init ++ [top])) (htop : top.below = false)
    (hpeak : IsPeak (init ++ [top]) peak) (hlen : tail.length = run) (hpos : 1 ≤ run) (hrun : run ≤ max 1 f.mOut)
    (hbelow : ∀ b ∈ tail, b.below = true) (hheld : IsPeak tail held) :
    (Scan.fall f.mOut base top run peak held).1.Fits f seen ∧ ∀ l ∈ (Scan.fall f.mOut base top run peak held).2,
      (Scan.fall f.mOut base top run peak held).1 = .clear ∧ l.base = base ∧ l.top = some top ∧
        l.Placed f seen pre (init ++ [top]) tail := by
  unfold Scan.fall
  split
  · next hge =>
    refine ⟨trivial, fun l hl => ?_⟩
    obtain rfl := Option.some.inj hl
    refine ⟨rfl, rfl, rfl, hseen, hopen, hpeak, fun t ht => ?_, nofun⟩
    obtain rfl := Option.some.inj ht
    exact ⟨⟨init, rfl⟩, htop, tail, [], (List.append_nil _).symm, by omega, hbelow⟩
  · next hlt => exact ⟨⟨pre, init, tail, hseen, hopen, htop, hpeak, hlen, by omega, hbelow, hheld⟩, nofun⟩

theorem Opened.snoc {base b : BinView} {bins : List BinView} (h : Opened f base bins) (hb : b.below = false) : Opened f base (bins ++ [b]) :=
  h.append [b] (h.unbroken.snoc (by rw [BinView.stays, hb]; rfl))

/-- The bins of a fall that has not closed the layer belong to it. -/
theorem Opened.fall {base top : BinView} {init tail : List BinView} (h : Opened f base (init ++ [top])) (htop : top.below = false)
    (hlen : tail.length < max 1 f.mOut) : Opened f base (init ++ [top] ++ tail) :=
  h.append tail (h.unbroken.append (by rw [BinView.stays, htop]; rfl) hlen)

/-- One bin keeps the record true of what has been seen, and a layer that closes leaves the scan CLEAR (R102, R103, R105). -/
theorem Scan.Fits.step {sc : Scan} (h : sc.Fits f seen) (b : BinView) :
    (sc.step f b).1.Fits f (seen ++ [b]) ∧ ∀ l ∈ (sc.step f b).2, (sc.step f b).1 = .clear ∧ ∃ t before extent after,
      l.top = some t ∧ l.Placed f (seen ++ [b]) before extent after := by
  cases sc with
  | clear =>
    refine ⟨?_, nofun⟩
    show (if b.above then Scan.rise f.mIn b b 1 b else .clear : Scan).Fits f (seen ++ [b])
    split
    · next habove =>
      exact Scan.rise_fits (rise := [b]) rfl ⟨[], rfl⟩ ⟨[], rfl⟩ rfl (Nat.le_max_left _ _) (by simpa using habove) (.single b)
    · trivial
  | rising base run peak =>
    obtain ⟨pre, rise, rfl, ⟨tail, rfl⟩, hlen, hrun, habove, hpeak⟩ := h
    refine ⟨?_, nofun⟩
    show (if b.above then Scan.rise f.mIn base b (run + 1) (higher peak b) else .clear : Scan).Fits f _
    split
    · next hb =>
      refine Scan.rise_fits (List.append_assoc _ _ _) ⟨tail ++ [b], rfl⟩ ⟨_, rfl⟩ (by simp [← hlen]) (by omega) (fun x hx => ?_) (hpeak.snoc b)
      rcases List.mem_append.mp hx with hx | hx
      · exact habove x hx
      · rwa [List.mem_singleton.mp hx]
    · trivial
  | inLayer base last peak =>
    obtain ⟨pre, init, rfl, hopen, hlast, hpeak⟩ := h
    rw [Scan.step]
    split
    · next hb =>
      obtain ⟨hfits, hlayer⟩ := Scan.fall_fits (f := f) (tail := [b]) (run := 1) (List.append_assoc _ _ _) hopen hlast hpeak rfl
        (Nat.le_refl _) (Nat.le_max_left _ _) (by simpa using hb) (.single b)
      exact ⟨hfits, fun l hl => ⟨(hlayer l hl).1, _, _, _, _, (hlayer l hl).2.2⟩⟩
    · next hb =>
      have hb' : b.below = false := by simpa using hb
      exact ⟨⟨pre, init ++ [last], List.append_assoc _ _ _, hopen.snoc hb', hb', hpeak.snoc b⟩, nofun⟩
  | falling base top run peak held =>
    obtain ⟨pre, init, tail, rfl, hopen, htop, hpeak, hlen, hrun, hbelow, hheld⟩ := h
    rw [Scan.step]
    split
    · next hb =>
      obtain ⟨hfits, hlayer⟩ := Scan.fall_fits (f := f) (seen := pre ++ (init ++ [top] ++ tail) ++ [b]) (pre := pre)
        (tail := tail ++ [b]) (run := run + 1)
        (by simp only [List.append_assoc]) hopen htop hpeak (by simp [hlen]) (by omega) (by omega)
        (fun x hx => by
          rcases List.mem_append.mp hx with hx | hx
          · exact hbelow x hx
          · rwa [List.mem_singleton.mp hx]) (hheld.snoc b)
      exact ⟨hfits, fun l hl => ⟨(hlayer l hl).1, _, _, _, _, (hlayer l hl).2.2⟩⟩
    · next hb =>
      have hb' : b.below = false := by simpa using hb
      exact ⟨⟨pre, init ++ [top] ++ tail, List.append_assoc _ _ _, (hopen.fall htop (by omega)).snoc hb', hb',
        (hpeak.append hheld).snoc b⟩, nofun⟩

/-- The end of the range closes an open layer without a top (R104). -/
theorem Scan.Fits.finish {sc : Scan} (h : sc.Fits f seen) : ∀ l ∈ sc.finish, l.Stands f seen := by
  intro l hl
  cases sc with
  | clear | rising => cases hl
  | inLayer base last peak =>
    obtain ⟨pre, init, hseen, hopen, -, hpeak⟩ := h
    obtain rfl := Option.some.inj hl
    exact ⟨pre, _, [], by rw [hseen, List.append_nil], hopen, hpeak, nofun, fun _ => rfl⟩
  | falling base top run peak held =>
    obtain ⟨pre, init, tail, hseen, hopen, htop, hpeak, hlen, hrun, -, hheld⟩ := h
    obtain rfl := Option.some.inj hl
    exact ⟨pre, _, [], by rw [hseen, List.append_nil], hopen.fall htop (by omega), hpeak.append hheld, nofun, fun _ => rfl⟩

/-- Every layer the scan closes stands in the range (R101 to R105). -/
theorem Scan.Fits.scanFrom {sc : Scan} (h : sc.Fits f seen) (rest : List BinView) : ∀ l ∈ scanFrom f sc rest, l.Stands f (seen ++ rest) := by
  induction rest generalizing seen sc with
  | nil =>
    intro l hl
    rw [List.append_nil]
    exact h.finish l (Option.mem_toList.mp hl)
  | cons b rest ih =>
    intro l hl
    obtain ⟨hfits, hlayer⟩ := h.step b
    have hwhole : seen ++ b :: rest = seen ++ [b] ++ rest := by simp
    rcases List.mem_append.mp hl with hl | hl
    · obtain ⟨-, t, before, extent, after, ht, hplaced⟩ := hlayer l (Option.mem_toList.mp hl)
      rw [hwhole]
      exact hplaced.extend ht rest
    · rw [hwhole]
      exact ih hfits l hl
end

theorem layer_stands {f : FinderEntry} {bins : List BinView} {l : Layer} (hl : l ∈ scanFrom f .clear bins) : l.Stands f bins :=
  Scan.Fits.scanFrom (seen := []) (sc := .clear) trivial bins l hl

end Sys2Proof.Machine

/-! Layers and detections over bins of rising index (R102 to R109). -/

namespace Sys2Proof.Machine

/-! ### Bins of rising index -/

/-- The bins of a range stand in rising order (R100). -/
def Rising (bins : List BinView) : Prop := bins.Pairwise fun a b => a.index < b.index

section
variable {f : FinderEntry} {bins before extent after : List BinView} {l : Layer}

theorem Layer.Placed.extent_mem (h : l.Placed f bins before extent after) {b : BinView} (hb : b ∈ extent) : b ∈ bins := by
  rw [h.whole]
  simp [hb]

theorem Layer.Placed.base_mem (h : l.Placed f bins before extent after) : l.base ∈ extent := by
  obtain ⟨tail, htail⟩ := h.opened.first
  rw [htail]
  exact List.mem_cons_self

theorem Layer.Placed.top_mem (h : l.Placed f bins before extent after) {t : BinView} (ht : l.top = some t) : t ∈ extent := by
  obtain ⟨⟨init, hinit⟩, -⟩ := h.closed t ht
  rw [hinit]
  simp

theorem Layer.Placed.peak_mem (h : l.Placed f bins before extent after) : l.peak ∈ extent := by
  obtain ⟨a, c, hext, -⟩ := h.peak
  rw [hext]
  simp

variable (hord : Rising bins)
include hord

/-- The three parts of the range stand one above the other. -/
theorem Layer.Placed.parts (h : l.Placed f bins before extent after) :
    Rising extent ∧ (∀ x ∈ before, ∀ y ∈ extent, x.index < y.index) ∧ ∀ x ∈ extent, ∀ y ∈ after, x.index < y.index := by
  rw [Rising, h.whole, List.pairwise_append] at hord
  obtain ⟨-, hrest, hbefore⟩ := hord
  obtain ⟨hextent, -, hafter⟩ := List.pairwise_append.mp hrest
  exact ⟨hextent, fun x hx y hy => hbefore x hx y (List.mem_append_left _ hy), hafter⟩

theorem Layer.Placed.base_le (h : l.Placed f bins before extent after) {b : BinView} (hb : b ∈ extent) : l.base.index ≤ b.index := by
  obtain ⟨hextent, -⟩ := h.parts hord
  obtain ⟨tail, htail⟩ := h.opened.first
  rw [htail] at hb hextent
  rcases List.mem_cons.mp hb with rfl | hb
  · exact Nat.le_refl _
  · exact Nat.le_of_lt ((List.pairwise_cons.mp hextent).1 b hb)

theorem Layer.Placed.le_top (h : l.Placed f bins before extent after) {t : BinView} (ht : l.top = some t) {b : BinView} (hb : b ∈ extent) :
    b.index ≤ t.index := by
  obtain ⟨hextent, -⟩ := h.parts hord
  obtain ⟨⟨init, hinit⟩, -⟩ := h.closed t ht
  rw [hinit] at hb hextent
  rcases List.mem_append.mp hb with hb | hb
  · exact Nat.le_of_lt ((List.pairwise_append.mp hextent).2.2 b hb t (List.mem_singleton_self t))
  · rw [List.mem_singleton.mp hb]

/-- The bins from the base to the top, or to the end of the range, are the layer's. -/
theorem Layer.Placed.mem_extent (h : l.Placed f bins before extent after) {b : BinView} (hb : b ∈ bins) (hbase : l.base.index ≤ b.index)
    (htop : ∀ t, l.top = some t → b.index ≤ t.index) : b ∈ extent := by
  obtain ⟨-, hbefore, hafter⟩ := h.parts hord
  rw [h.whole, List.mem_append, List.mem_append] at hb
  rcases hb with hb | hb | hb
  · have := hbefore b hb l.base h.base_mem
    omega
  · exact hb
  · cases ht : l.top with
    | none => rw [h.toEnd ht] at hb; cases hb
    | some t =>
      have := hafter t (h.top_mem ht) b hb
      have := htop t ht
      omega

/-- The peak is the highest bin of the layer, the lowest of those that are equal (R105). -/
theorem Layer.Placed.peak_spec (h : l.Placed f bins before extent after) {b : BinView} (hb : b ∈ extent) :
    b.beta ≤ l.peak.beta ∧ (b.beta = l.peak.beta → l.peak.index ≤ b.index) := by
  obtain ⟨hextent, -⟩ := h.parts hord
  obtain ⟨a, c, hext, ha, hc⟩ := h.peak
  rw [hext] at hb hextent
  obtain ⟨-, hpeak, -⟩ := List.pairwise_append.mp hextent
  rcases List.mem_append.mp hb with hb | hb
  · have := ha b hb
    exact ⟨Int.le_of_lt this, fun he => by omega⟩
  · rcases List.mem_cons.mp hb with rfl | hb
    · exact ⟨Int.le_refl _, fun _ => Nat.le_refl _⟩
    · exact ⟨hc b hb, fun _ => Nat.le_of_lt ((List.pairwise_cons.mp hpeak).1 b hb)⟩

/-- A run below the release level above the base lies above the top (R103). -/
theorem Layer.Placed.closes (h : l.Placed f bins before extent after) {pre run post : List BinView} (hbins : bins = pre ++ run ++ post)
    (hlen : run.length = max 1 f.mOut) (hbelow : ∀ b ∈ run, b.below = true) (hbase : ∃ b ∈ pre, l.base.index = b.index) :
    ∃ t, l.top = some t ∧ ∀ b ∈ run.getLast?, t.index < b.index := by
  obtain ⟨-, hbefore, hafter⟩ := h.parts hord
  have hinside : ¬ run <:+: extent := fun hrun => by
    obtain ⟨b, hb, hstays⟩ := h.opened.unbroken run hrun hlen
    rw [BinView.stays, hbelow b hb] at hstays
    cases hstays
  have hparts : pre ++ (run ++ post) = before ++ (extent ++ after) := by rw [← List.append_assoc, ← hbins, h.whole]
  obtain ⟨low, hmem, hlow⟩ | ⟨low, hpre, hrest⟩ : (∃ low, low ∈ before ∧ l.base.index = low.index) ∨
      ∃ low, pre = before ++ low ∧ extent ++ after = low ++ (run ++ post) := by
    rcases List.append_eq_append_iff.mp hparts with ⟨low, hlow, -⟩ | hsplit
    · obtain ⟨b, hb, hidx⟩ := hbase
      exact .inl ⟨b, by rw [hlow]; exact List.mem_append_left _ hb, hidx⟩
    · exact .inr hsplit
  · have := hbefore low hmem l.base h.base_mem
    omega
  · rw [← List.append_assoc] at hrest
    rcases List.append_eq_append_iff.mp hrest with ⟨more, hrun, hafter'⟩ | ⟨more, hext, -⟩
    · cases ht : l.top with
      | none =>
        rw [h.toEnd ht, List.nil_eq_append_iff] at hafter'
        rw [hafter'.1, List.append_nil] at hrun
        exact absurd ⟨low, [], by rw [List.append_nil, hrun]⟩ hinside
      | some t =>
        refine ⟨t, rfl, fun b hb => ?_⟩
        rcases more.eq_nil_or_concat' with rfl | ⟨init, last, rfl⟩
        · rw [List.append_nil] at hrun
          exact absurd ⟨low, [], by rw [List.append_nil, hrun]⟩ hinside
        · have hlast : (low ++ run).getLast? = some last := by rw [hrun, ← List.append_assoc, List.getLast?_concat]
          rw [List.getLast?_append, hb, Option.some_or] at hlast
          obtain rfl := Option.some.inj hlast
          exact hafter t (h.top_mem ht) b (by rw [hafter']; simp)
    · exact absurd ⟨low, more, hext.symm⟩ hinside
end

/-- Settles O39: each layer in its place, with the facts about places. -/
theorem layersAndPeaks : Obligations.LayersAndPeaks := by
  refine ⟨fun f bins hord l hl => ?_, fun f bins hord hin hout l hl => ?_⟩
  · obtain ⟨before, extent, after, h⟩ := layer_stands hl
    refine ⟨h.extent_mem h.peak_mem, h.extent_mem h.base_mem, h.base_le hord h.peak_mem,
      fun t ht => ⟨h.extent_mem (h.top_mem ht), h.le_top hord ht h.peak_mem⟩, fun b hb hbase htop => ?_⟩
    exact h.peak_spec hord (h.mem_extent hord hb hbase htop)
  · obtain ⟨before, extent, after, h⟩ := layer_stands hl
    have hmax : max 1 f.mOut = f.mOut := Nat.max_eq_right hout
    refine ⟨fun t ht => ?_, fun pre run post hbins hlen => h.closes hord hbins (hlen.trans hmax.symm)⟩
    obtain ⟨⟨init, hinit⟩, hbelow, run, rest, hafter, hlen, hrun⟩ := h.closed t ht
    refine ⟨before ++ init, run, rest, ?_, hlen.trans hmax, hrun, hbelow⟩
    rw [h.whole, hinit, hafter]
    simp only [List.append_assoc]

/-! ### The scan, run by run -/

/-- The scan record after a run of bins. -/
def Scan.after (f : FinderEntry) (sc : Scan) (bins : List BinView) : Scan := bins.foldl (fun sc b => (sc.step f b).1) sc

section
variable {f : FinderEntry}

/-- Where the scan is CLEAR it starts afresh. -/
theorem scanFrom_append {sc : Scan} {bins : List BinView} (h : sc.after f bins = .clear) (more : List BinView) :
    scanFrom f sc (bins ++ more) = scanFrom f sc bins ++ scanFrom f .clear more := by
  induction bins generalizing sc with
  | nil =>
    obtain rfl : sc = .clear := h
    rfl
  | cons b rest ih =>
    have hrest : scanFrom f (sc.step f b).1 (rest ++ more) = scanFrom f (sc.step f b).1 rest ++ scanFrom f .clear more := ih h
    rw [List.cons_append, scanFrom, hrest, ← List.append_assoc, ← scanFrom]

/-- A run above threshold that reaches m_in opens the layer (R102). -/
theorem Scan.rise_opens {base b peak : BinView} {run : List BinView} {k : Nat} (hlen : run.length + k = f.mIn)
    (habove : ∀ x ∈ run, x.above = true) :
    ∃ last peak', (Scan.rise f.mIn base b k peak).after f run = .inLayer base last peak' ∧
      ∀ post, scanFrom f (Scan.rise f.mIn base b k peak) (run ++ post) = scanFrom f (.inLayer base last peak') post := by
  induction run generalizing b peak k with
  | nil =>
    rw [List.length_nil, Nat.zero_add] at hlen
    rw [Scan.rise, if_pos (Nat.le_of_eq hlen.symm)]
    exact ⟨b, peak, rfl, fun _ => rfl⟩
  | cons x rest ih =>
    rw [List.length_cons] at hlen
    have hstep : (Scan.rise f.mIn base b k peak).step f x = (Scan.rise f.mIn base x (k + 1) (higher peak x), none) := by
      rw [Scan.rise, if_neg (by omega), Scan.step, if_pos (habove x List.mem_cons_self)]
    obtain ⟨last, peak', hafter, hscan⟩ := ih (b := x) (peak := higher peak x) (k := k + 1) (by omega)
      fun y hy => habove y (List.mem_cons_of_mem _ hy)
    refine ⟨last, peak', ?_, fun post => ?_⟩
    · rw [← hafter, Scan.after, List.foldl_cons, hstep]
      rfl
    · rw [← hscan, List.cons_append, scanFrom, hstep]
      rfl

/-- A shorter one stays a rising run (R102). -/
theorem Scan.rise_short {base b peak : BinView} {run : List BinView} {k : Nat} (hlen : run.length + k < f.mIn)
    (habove : ∀ x ∈ run, x.above = true) :
    ∃ peak', (Scan.rise f.mIn base b k peak).after f run = .rising base (run.length + k) peak' := by
  induction run generalizing b peak k with
  | nil =>
    rw [List.length_nil, Nat.zero_add] at hlen
    rw [Scan.rise, if_neg (by omega), List.length_nil, Nat.zero_add]
    exact ⟨peak, rfl⟩
  | cons x rest ih =>
    rw [List.length_cons] at hlen
    have hstep : (Scan.rise f.mIn base b k peak).step f x = (Scan.rise f.mIn base x (k + 1) (higher peak x), none) := by
      rw [Scan.rise, if_neg (by omega), Scan.step, if_pos (habove x List.mem_cons_self)]
    obtain ⟨peak', hafter⟩ := ih (b := x) (peak := higher peak x) (k := k + 1) (by omega) fun y hy => habove y (List.mem_cons_of_mem _ hy)
    refine ⟨peak', ?_⟩
    have hsum : (x :: rest).length + k = rest.length + (k + 1) := by rw [List.length_cons]; omega
    rw [hsum, ← hafter, Scan.after, List.foldl_cons, hstep]
    rfl

/-- A run below the release level that reaches m_out leaves the scan CLEAR (R103). -/
theorem Scan.fall_closes {base top peak held : BinView} {run : List BinView} {k : Nat} (hlen : run.length + k = f.mOut)
    (hbelow : ∀ x ∈ run, x.below = true) : (Scan.fall f.mOut base top k peak held).1.after f run = .clear := by
  induction run generalizing held k with
  | nil =>
    rw [List.length_nil, Nat.zero_add] at hlen
    rw [Scan.fall, if_pos (Nat.le_of_eq hlen.symm)]
    rfl
  | cons x rest ih =>
    rw [List.length_cons] at hlen
    have hstep : ((Scan.fall f.mOut base top k peak held).1.step f x).1 = (Scan.fall f.mOut base top (k + 1) peak (higher held x)).1 := by
      rw [Scan.fall, if_neg (by omega), Scan.step, if_pos (hbelow x List.mem_cons_self)]
    rw [Scan.after, List.foldl_cons, hstep]
    exact ih (by omega) fun y hy => hbelow y (List.mem_cons_of_mem _ hy)

/-- The base of an open layer. -/
def Scan.openBase : Scan → Option BinView
  | .clear | .rising _ _ _ => none
  | .inLayer base _ _ | .falling base _ _ _ _ => some base

/-- A fall leaves the layer open with its base, or closes it with that base. -/
theorem Scan.fall_base (mOut : Nat) (base top : BinView) (run : Nat) (peak held : BinView) :
    ((Scan.fall mOut base top run peak held).1.openBase = some base ∧ (Scan.fall mOut base top run peak held).2 = none) ∨
      ∃ l, (Scan.fall mOut base top run peak held).2 = some l ∧ l.base = base := by
  unfold Scan.fall
  split
  · exact .inr ⟨_, rfl, rfl⟩
  · exact .inl ⟨rfl, rfl⟩

theorem Scan.step_base {sc : Scan} {base : BinView} (h : sc.openBase = some base) (b : BinView) :
    ((sc.step f b).1.openBase = some base ∧ (sc.step f b).2 = none) ∨ ∃ l, (sc.step f b).2 = some l ∧ l.base = base := by
  cases sc with
  | clear | rising => cases h
  | inLayer base' last peak =>
    obtain rfl := Option.some.inj h
    rw [Scan.step]
    split
    · exact Scan.fall_base _ _ _ _ _ _
    · exact .inl ⟨rfl, rfl⟩
  | falling base' top run peak held =>
    obtain rfl := Option.some.inj h
    rw [Scan.step]
    split
    · exact Scan.fall_base _ _ _ _ _ _
    · exact .inl ⟨rfl, rfl⟩

/-- An open layer is the next that the scan closes (R103, R104). -/
theorem scanFrom_open {sc : Scan} {base : BinView} (h : sc.openBase = some base) (bins : List BinView) :
    ∃ l rest, scanFrom f sc bins = l :: rest ∧ l.base = base := by
  induction bins generalizing sc with
  | nil =>
    cases sc with
    | clear | rising => cases h
    | inLayer | falling =>
      obtain rfl := Option.some.inj h
      exact ⟨_, [], rfl, rfl⟩
  | cons b rest ih =>
    rw [scanFrom]
    rcases Scan.step_base (f := f) h b with ⟨hopen, hnone⟩ | ⟨l, hl, hbase⟩
    · rw [hnone]
      exact ih hopen
    · rw [hl]
      exact ⟨l, _, rfl, hbase⟩
end

/-! ### The order of the layers -/

/-- A layer lies below the base of another (R109). -/
def Layer.precedes (a b : Layer) : Prop := a.base.index < b.base.index ∧ ∀ t, a.top = some t → t.index < b.base.index

theorem scanFrom_ordered {f : FinderEntry} {seen : List BinView} {sc : Scan} (hsc : sc.Fits f seen) (rest : List BinView)
    (hord : Rising (seen ++ rest)) : (scanFrom f sc rest).Pairwise Layer.precedes := by
  induction rest generalizing seen sc with
  | nil =>
    rw [scanFrom]
    cases sc.finish <;> simp
  | cons b rest ih =>
    obtain ⟨hfits, hlayer⟩ := hsc.step b
    have hwhole : seen ++ b :: rest = seen ++ [b] ++ rest := by simp
    rw [hwhole] at hord
    have htail := ih hfits hord
    rw [scanFrom]
    cases hl : (sc.step f b).2 with
    | none => exact htail
    | some l =>
      obtain ⟨hclear, t, before, extent, after, -, hplaced⟩ := hlayer l hl
      refine List.pairwise_cons.mpr ⟨fun m hm => ?_, htail⟩
      have hclosed : m ∈ scanFrom f (sc.step f b).1 rest := hm
      rw [hclear] at hclosed
      obtain ⟨before', extent', after', hm'⟩ := layer_stands hclosed
      have hlt : ∀ x ∈ extent, x.index < m.base.index := fun x hx =>
        (List.pairwise_append.mp hord).2.2 x (hplaced.extent_mem hx) _ (hm'.extent_mem hm'.base_mem)
      exact ⟨hlt _ hplaced.base_mem, fun u hu => hlt u (hplaced.top_mem hu)⟩

/-! ### Detections -/

section
variable {f : FinderEntry} {bins : List BinView}

theorem BinView.haze_iff (b : BinView) : b.haze = true ↔ 0 < b.th ∧ (b.th : Int) ≤ b.beta := by
  rw [BinView.haze, Bool.and_eq_true, decide_eq_true_eq, decide_eq_true_eq]

/-- A closed top is kept when a bin above it shows return (R107). -/
theorem keptTop_some {l : Layer} {t : BinView} : keptTop bins l = some t ↔
    l.top = some t ∧ ∃ b ∈ bins, t.index < b.index ∧ 0 < b.th ∧ (b.th : Int) ≤ b.beta := by
  unfold keptTop
  cases l.top with
  | none => simp
  | some u =>
    simp only [List.any_eq_true, Bool.and_eq_true, decide_eq_true_eq, BinView.haze_iff, Option.some.injEq]
    split
    · next h => exact ⟨by rintro ⟨⟩; exact ⟨rfl, h⟩, fun h => congrArg _ h.1⟩
    · next h => exact ⟨nofun, by rintro ⟨rfl, h'⟩; exact absurd h' h⟩

theorem detect_top (l : Layer) : (detect f bins l).topBin = (keptTop bins l).map BinView.index ∧
    (detect f bins l).top = (keptTop bins l).map BinView.top ∧ (detect f bins l).flags.topSeen = (keptTop bins l).isSome :=
  ⟨rfl, rfl, rfl⟩

/-- A detection is the detection of a layer (R106). -/
theorem exists_layer_of_detection {d : Detection} (hd : d ∈ (findLayers f bins).detections) :
    ∃ l ∈ scanFrom f .clear bins, d = detect f bins l := by
  obtain ⟨l, hl, rfl⟩ := List.mem_map.mp hd
  exact ⟨l, List.mem_of_mem_take hl, rfl⟩
end

/-- Settles O38: the scan run by run, and the detections as those of the first twelve layers. -/
theorem detectionsOrdered : Obligations.DetectionsOrdered := by
  refine ⟨fun f pre run post after hafter hin => ?_, fun f bins ds layers hord hds hlayers => ?_⟩
  · obtain rfl : after = Scan.after f .clear := funext hafter
    have happend : ∀ xs ys, Scan.after f .clear (xs ++ ys) = (Scan.after f .clear xs).after f ys := fun xs ys => List.foldl_append
    refine ⟨fun hpre => ?_, fun hpre hlen habove => ?_, fun b hpre hlen habove hb => ?_, fun base last peak hpre hout hlen hbelow => ?_⟩
    · rw [List.append_assoc, scanFrom_append hpre]
    · obtain ⟨base, rest, rfl⟩ := List.exists_cons_of_length_pos (by omega : 0 < run.length)
      have hstep : Scan.clear.step f base = (Scan.rise f.mIn base base 1 base, none) := by
        rw [Scan.step, if_pos (habove base List.mem_cons_self)]
      obtain ⟨last, peak, hopen, hscan⟩ := Scan.rise_opens (f := f) (base := base) (b := base) (peak := base) (k := 1) (run := rest) hlen
        fun x hx => habove x (List.mem_cons_of_mem _ hx)
      refine ⟨⟨base, last, peak, rfl, ?_⟩, ?_⟩
      · rw [happend, hpre, ← hopen, Scan.after, List.foldl_cons, hstep]
        rfl
      · obtain ⟨l, more, hl, hbase⟩ := scanFrom_open (f := f) (sc := .inLayer base last peak) (base := base) rfl post
        refine ⟨l, more, ?_, congrArg _ hbase.symm⟩
        rw [List.cons_append, scanFrom, hstep, ← hl, ← hscan]
        rfl
    · rw [happend, happend, hpre]
      cases run with
      | nil =>
        show (Scan.clear.step f b).1 = .clear
        rw [Scan.step, if_neg (by rw [hb]; decide)]
      | cons base rest =>
        have hstep : (Scan.clear.step f base).1 = Scan.rise f.mIn base base 1 base := by
          rw [Scan.step, if_pos (habove base List.mem_cons_self)]
        obtain ⟨peak, hshort⟩ := Scan.rise_short (f := f) (base := base) (b := base) (peak := base) (k := 1) (run := rest) hlen
          fun x hx => habove x (List.mem_cons_of_mem _ hx)
        have hrising : Scan.clear.after f (base :: rest) = .rising base (rest.length + 1) peak := by
          rw [← hshort, Scan.after, List.foldl_cons, hstep]
          rfl
        rw [hrising]
        show ((Scan.rising base (rest.length + 1) peak).step f b).1 = .clear
        rw [Scan.step, if_neg (by rw [hb]; decide)]
    · obtain ⟨x, rest, rfl⟩ := List.exists_cons_of_length_pos (by omega : 0 < run.length)
      have hstep : ((Scan.inLayer base last peak).step f x).1 = (Scan.fall f.mOut base last 1 peak x).1 := by
        rw [Scan.step, if_pos (hbelow x List.mem_cons_self)]
      rw [happend, hpre, Scan.after, List.foldl_cons, hstep]
      exact Scan.fall_closes hlen fun y hy => hbelow y (List.mem_cons_of_mem _ hy)
  · have hmap : ds = (layers.take 12).map (detect f bins) := by rw [hds, hlayers]; rfl
    have horder : layers.Pairwise Layer.precedes := by
      rw [hlayers]
      exact scanFrom_ordered (seen := []) (sc := .clear) trivial bins hord
    refine ⟨by rw [hmap, List.length_map, List.length_take], fun i l hi hl => ⟨detect f bins l, ?_, rfl, rfl, rfl, fun t ht hshow => ?_,
      fun hnone => ?_⟩, ?_, fun d hd => ?_, fun d hd t ht => ?_, fun d hd ht => ?_⟩
    · rw [hmap, List.getElem?_map, List.getElem?_take_of_lt hi, hl]
      rfl
    · have hkept : keptTop bins l = some t := keptTop_some.mpr ⟨ht, hshow⟩
      obtain ⟨h1, h2, h3⟩ := detect_top (f := f) (bins := bins) l
      rw [h1, h2, h3, hkept]
      exact ⟨rfl, rfl, rfl⟩
    · have hkept : keptTop bins l = none := by
        rw [Option.eq_none_iff_forall_not_mem]
        intro t ht
        obtain ⟨htop, b, hb, hidx, hth, hbeta⟩ := keptTop_some.mp ht
        have := hnone t htop b hb hidx
        omega
      rw [(detect_top l).1, hkept]
      rfl
    · rw [hmap, List.pairwise_map]
      refine (horder.sublist (List.take_sublist 12 layers)).imp fun {a b} hab => ⟨hab.1, fun t ht => ?_⟩
      rw [(detect_top a).1, Option.map_eq_some_iff] at ht
      obtain ⟨u, hu, rfl⟩ := ht
      exact hab.2 u (keptTop_some.mp hu).1
    all_goals rw [hds] at hd
    all_goals obtain ⟨l, hl, rfl⟩ := exists_layer_of_detection hd
    all_goals obtain ⟨before, extent, behind, h⟩ := layer_stands hl
    · obtain ⟨run, rest, hext, hlen, habove⟩ := h.opened.opens
      refine ⟨before, run, rest ++ behind, ?_, hlen, habove, ?_⟩
      · rw [h.whole, hext]
        simp only [List.append_assoc]
      · obtain ⟨tail, htail⟩ := h.opened.first
        obtain ⟨b, more, rfl⟩ := List.exists_cons_of_length_pos (by omega : 0 < run.length)
        rw [htail, List.cons_append] at hext
        obtain ⟨rfl, -⟩ := List.cons.inj hext
        exact ⟨rfl, rfl⟩
    · obtain ⟨h1, h2, h3⟩ := detect_top (f := f) (bins := bins) l
      rw [h1, Option.map_eq_some_iff] at ht
      obtain ⟨u, hu, rfl⟩ := ht
      obtain ⟨htop, hshow⟩ := keptTop_some.mp hu
      rw [h2, h3, hu]
      exact ⟨h.base_le hord (h.top_mem htop), rfl, ⟨u, h.extent_mem (h.top_mem htop), rfl, rfl⟩, hshow⟩
    · obtain ⟨h1, h2, h3⟩ := detect_top (f := f) (bins := bins) l
      rw [h1, Option.map_eq_none_iff] at ht
      rw [h2, h3, ht]
      exact ⟨rfl, rfl⟩

end Sys2Proof.Machine

/-! The summary of a profile (R107 to R115). -/

namespace Sys2Proof.Machine

/-! ### Vertical visibility -/

/-- The integral over a run of bins (R111). -/
def integral (bins : List BinView) : Nat := (bins.map fun x => x.beta.toNat * x.span).sum

theorem integral_cons (b : BinView) (rest : List BinView) : integral (b :: rest) = b.beta.toNat * b.span + integral rest := by
  simp [integral]

/-- The visibility ends at the first bin at which the running integral reaches the limit (R111). -/
theorem visibility_reached {limit sum : Nat} (hsum : sum < limit) (last : Nat) (bins : List BinView) (h : Nat) :
    visibility limit sum last bins = (h, false) ↔ ∃ pre b post, bins = pre ++ b :: post ∧ h = b.top ∧
      sum + integral pre < limit ∧ limit ≤ sum + integral pre + b.beta.toNat * b.span := by
  induction bins generalizing sum last with
  | nil => simp [visibility]
  | cons b rest ih =>
    simp only [visibility]
    split
    · next hreach =>
      constructor
      · rintro ⟨⟩
        exact ⟨[], b, rest, rfl, rfl, hsum, hreach⟩
      · rintro ⟨pre, c, post, heq, rfl, hlow, hhigh⟩
        cases pre with
        | nil =>
          obtain ⟨rfl, rfl⟩ := List.cons.inj heq
          rfl
        | cons x pre =>
          obtain ⟨rfl, rfl⟩ := List.cons.inj heq
          rw [integral_cons] at hlow
          omega
    · next hbelow =>
      rw [ih (Nat.not_le.mp hbelow)]
      constructor
      · rintro ⟨pre, c, post, rfl, rfl, hlow, hhigh⟩
        exact ⟨b :: pre, c, post, rfl, rfl, by rw [integral_cons]; omega, by rw [integral_cons]; omega⟩
      · rintro ⟨pre, c, post, heq, rfl, hlow, hhigh⟩
        cases pre with
        | nil =>
          obtain ⟨rfl, rfl⟩ := List.cons.inj heq
          exact absurd hhigh hbelow
        | cons x pre =>
          obtain ⟨rfl, rfl⟩ := List.cons.inj heq
          rw [integral_cons] at hlow hhigh
          exact ⟨pre, c, post, rfl, rfl, by omega, by omega⟩

/-- It is limited exactly when the whole range stays below the limit (R112). -/
theorem visibility_limited {limit sum : Nat} (hsum : sum < limit) (last : Nat) (bins : List BinView) (h : Nat) :
    visibility limit sum last bins = (h, true) ↔ sum + integral bins < limit ∧ (bins.getLast?.map BinView.top).getD last = h := by
  induction bins generalizing sum last with
  | nil => simp [visibility, integral, hsum]
  | cons b rest ih =>
    simp only [visibility]
    rw [integral_cons]
    split
    · next hreach => exact ⟨nofun, fun hlow => by omega⟩
    · next hbelow =>
      have hlast : (((b :: rest).getLast?).map BinView.top).getD last = ((rest.getLast?).map BinView.top).getD b.top := by
        rw [List.getLast?_cons]
        cases rest.getLast? <;> rfl
      rw [ih (Nat.not_le.mp hbelow), hlast, Nat.add_assoc]

/-! ### The haze top -/

/-- A run of clear bins that reaches m_out ends the search (R114). -/
theorem hazeFrom_run {m prev k : Nat} {run : List BinView} (hlen : run.length + k = m) (hk : k < m) (hclear : ∀ x ∈ run, x.haze = false)
    (post : List BinView) : hazeFrom m prev k (run ++ post) = some prev := by
  induction run generalizing k with
  | nil =>
    rw [List.length_nil] at hlen
    omega
  | cons x rest ih =>
    rw [List.length_cons] at hlen
    rw [List.cons_append, hazeFrom, if_neg (by rw [hclear x List.mem_cons_self]; decide)]
    split
    · rfl
    · next hlt => exact ih (by omega) (by omega) fun y hy => hclear y (List.mem_cons_of_mem _ hy)

/-- The search passes over bins without such a run up to a haze bin (R114). -/
theorem hazeFrom_pass {m prev : Nat} {clear pre : List BinView} (hlen : clear.length < m) (hclear : ∀ x ∈ clear, x.haze = false)
    (hrun : NoRun BinView.haze m (clear ++ pre)) {b : BinView} (hb : b.haze = true) (rest : List BinView) :
    hazeFrom m prev clear.length (pre ++ b :: rest) = hazeFrom m b.top 0 rest := by
  induction pre generalizing prev clear with
  | nil => rw [List.nil_append, hazeFrom, if_pos hb]
  | cons x pre ih =>
    rw [List.cons_append, hazeFrom]
    cases hx : x.haze with
    | true =>
      rw [if_pos rfl]
      exact ih (clear := []) (by rw [List.length_nil]; omega) nofun (hrun.of_part ⟨clear ++ [x], [], by simp⟩)
    | false =>
      have hmore : ∀ y ∈ clear ++ [x], y.haze = false := fun y hy => by
        rcases List.mem_append.mp hy with hy | hy
        · exact hclear y hy
        · rwa [List.mem_singleton.mp hy]
      have hlen' : (clear ++ [x]).length = clear.length + 1 := List.length_append
      have hshort : ¬ clear.length + 1 ≥ m := fun hge => by
        obtain ⟨y, hy, hhaze⟩ := hrun (clear ++ [x]) ⟨[], pre, by simp⟩ (by omega)
        rw [hmore y hy] at hhaze
        cases hhaze
      rw [if_neg (by decide), if_neg hshort, ← hlen']
      exact ih (by omega) hmore (by rwa [List.append_assoc])

/-- A haze top found is that of the bin under the first run of m_out clear bins (R114). -/
theorem hazeFrom_found {m h : Nat} {pre clear : List BinView} {b : BinView} (hlen : clear.length < m)
    (hclear : ∀ x ∈ clear, x.haze = false) (hb : b.haze = true) (hrun : NoRun BinView.haze m pre) {rest : List BinView}
    (hfound : hazeFrom m b.top clear.length rest = some h) :
    ∃ front c run post, pre ++ b :: (clear ++ rest) = front ++ c :: (run ++ post) ∧ h = c.top ∧ run.length = m ∧
      (∀ x ∈ run, x.haze = false) ∧ c.haze = true ∧ (pre ++ [b]).head? = (front ++ [c]).head? ∧ NoRun BinView.haze m front := by
  induction rest generalizing pre clear b with
  | nil => cases hfound
  | cons x rest ih =>
    rw [hazeFrom] at hfound
    cases hx : x.haze with
    | true =>
      rw [hx, if_pos rfl] at hfound
      have hpre : NoRun BinView.haze m (pre ++ [b] ++ clear) := (hrun.snoc hb).append hb hlen
      obtain ⟨front, c, run, post, heq, hspec⟩ := ih (pre := pre ++ [b] ++ clear) (clear := []) (b := x) (by rw [List.length_nil]; omega)
        nofun hx hpre hfound
      obtain ⟨htop, hlen', hrun', hc, hhead, hfront⟩ := hspec
      refine ⟨front, c, run, post, by rw [← heq]; simp, htop, hlen', hrun', hc, ?_, hfront⟩
      rw [← hhead]
      cases pre <;> rfl
    | false =>
      have hmore : ∀ y ∈ clear ++ [x], y.haze = false := fun y hy => by
        rcases List.mem_append.mp hy with hy | hy
        · exact hclear y hy
        · rwa [List.mem_singleton.mp hy]
      have hlen' : (clear ++ [x]).length = clear.length + 1 := List.length_append
      have hassoc : clear ++ x :: rest = clear ++ [x] ++ rest := by simp
      rw [hx, if_neg (by decide)] at hfound
      rw [hassoc]
      split at hfound
      · next hge =>
        obtain rfl := Option.some.inj hfound
        exact ⟨pre, b, clear ++ [x], rest, rfl, rfl, by omega, hmore, hb, rfl, hrun⟩
      · next hlt => exact ih (by omega) hmore hb hrun (by rwa [hlen'])

/-- Runs given by their place. -/
theorem noRun_iff {mark : BinView → Bool} {n : Nat} {bins : List BinView} :
    NoRun mark n bins ↔ ∀ a r c, bins = a ++ r ++ c → r.length = n → ∃ x ∈ r, mark x = true :=
  ⟨fun h a r c heq hlen => h r ⟨a, c, heq.symm⟩ hlen, fun h r hr hlen => by
    obtain ⟨a, c, heq⟩ := hr
    exact h a r c heq.symm hlen⟩

/-- The haze top of a range (R113, R114). -/
theorem hazeTop_iff {m : Nat} (hm : 1 ≤ m) (bins : List BinView) (h : Nat) :
    hazeTop m bins = some h ↔ ∃ pre b run post, bins = pre ++ b :: (run ++ post) ∧ h = b.top ∧ run.length = m ∧
      (∀ x ∈ run, x.haze = false) ∧ b.haze = true ∧ (∀ x, (pre ++ [b]).head? = some x → x.haze = true) ∧
      NoRun BinView.haze m pre := by
  constructor
  · intro hfound
    cases bins with
    | nil => cases hfound
    | cons b rest =>
      rw [hazeTop] at hfound
      split at hfound
      · next hb =>
        have hnil : NoRun BinView.haze m [] := NoRun.of_all hm nofun
        obtain ⟨front, c, run, post, heq, htop, hlen, hrun, hc, hhead, hfront⟩ :=
          hazeFrom_found (pre := []) (clear := []) (b := b) (by rw [List.length_nil]; omega) nofun hb hnil hfound
        refine ⟨front, c, run, post, heq, htop, hlen, hrun, hc, fun x hx => ?_, hfront⟩
        rw [← hhead] at hx
        obtain rfl := Option.some.inj hx
        exact hb
      · cases hfound
  · rintro ⟨pre, b, run, post, rfl, rfl, hlen, hrun, hb, hhead, hpre⟩
    have hend : hazeFrom m b.top 0 (run ++ post) = some b.top := hazeFrom_run (by omega) (by omega) hrun post
    cases pre with
    | nil => rw [List.nil_append, hazeTop, if_pos hb, hend]
    | cons x pre =>
      have hfirst : x.haze = true := hhead x rfl
      have hpass := hazeFrom_pass (prev := x.top) (clear := []) (pre := pre) (by rw [List.length_nil]; omega) nofun
        (hpre.of_part ⟨[x], [], by simp⟩) hb (run ++ post)
      rw [List.cons_append, hazeTop, if_pos hfirst, ← hend, ← hpass]
      rfl

/-! ### Classes, flags and sky state -/

section
variable {f : FinderEntry} {bins : List BinView}

theorem detect_cls (l : Layer) : (detect f bins l).cls = .fog ↔ (detect f bins l).base ≤ f.fogFloor := by
  show (if l.base.base ≤ f.fogFloor then LayerClass.fog else .cloud) = .fog ↔ l.base.base ≤ f.fogFloor
  split <;> simp [*]

theorem detect_belowRidge (l : Layer) : (detect f bins l).flags.belowRidge = true ↔ (detect f bins l).base < f.ridge :=
  decide_eq_true_iff

/-- CLIPPED over the bins that bound the detection (R108). -/
theorem detect_clipped (l : Layer) : (detect f bins l).flags.clipped = true ↔ ∃ b ∈ bins, b.clipped = true ∧
    (detect f bins l).baseBin ≤ b.index ∧ ∀ t, (detect f bins l).topBin = some t → b.index ≤ t := by
  have hextent : ∀ b, inExtent l.base (keptTop bins l) b = true ↔
      l.base.index ≤ b.index ∧ ∀ t, (keptTop bins l).map BinView.index = some t → b.index ≤ t := fun b => by
    unfold inExtent
    rw [Bool.and_eq_true, decide_eq_true_eq]
    cases keptTop bins l <;> simp
  show (bins.any fun b => inExtent l.base (keptTop bins l) b && b.clipped) = true ↔ _
  simp only [List.any_eq_true, Bool.and_eq_true, hextent]
  exact ⟨fun ⟨b, hb, hin, hc⟩ => ⟨b, hb, hc, hin⟩, fun ⟨b, hb, hc, hin⟩ => ⟨b, hb, hin, hc⟩⟩
end

theorem skyOf_clear_iff (ds : List Detection) : skyOf ds = .clear ↔ ds = [] := by
  cases ds with
  | nil => simp [skyOf]
  | cons d rest =>
    rw [skyOf]
    split <;> simp

theorem skyOf_obscured_iff (ds : List Detection) : skyOf ds = .obscured ↔ ∃ d rest, ds = d :: rest ∧ d.cls = .fog ∧ d.top = none := by
  cases ds with
  | nil => simp [skyOf]
  | cons d rest =>
    rw [skyOf]
    split
    · next h => exact ⟨fun _ => ⟨d, rest, rfl, h⟩, fun _ => rfl⟩
    · next h =>
      refine ⟨nofun, fun ⟨d', rest', heq, h'⟩ => ?_⟩
      obtain ⟨rfl, -⟩ := List.cons.inj heq
      exact absurd h' h

/-- Settles O40: the visibility and the haze top by their searches, the rest field by field. -/
theorem skySummary : Obligations.SkySummary := by
  refine ⟨fun limit bins hlimit hne => ⟨fun h => ?_, fun h => ?_⟩, fun m bins h hm => ?_, fun f bins r hr => ?_⟩
  · simpa only [Nat.zero_add, integral] using visibility_reached (sum := 0) hlimit 0 bins h
  · obtain ⟨front, last, rfl⟩ := bins.eq_nil_or_concat'.resolve_left hne
    have hlimited := visibility_limited (sum := 0) hlimit 0 (front ++ [last]) h
    rw [Nat.zero_add, List.getLast?_concat] at hlimited
    rw [hlimited, List.getLast?_concat, Option.map_some, Option.getD_some, Option.some.injEq]
    rfl
  · rw [hazeTop_iff hm]
    simp only [noRun_iff]
  · have hsky : r.sky = skyOf r.detections := by rw [hr]; rfl
    have hvv : r.vv = if r.sky = .obscured then some (visibility f.vvLimit 0 0 bins).1 else none := by rw [hr]; rfl
    have hlimited : r.vvLimited = (decide (r.sky = .obscured) && (visibility f.vvLimit 0 0 bins).2) := by rw [hr]; rfl
    have hhaze : r.haze = hazeTop f.mOut (hazeSpan bins r.detections) := by rw [hr]; rfl
    refine ⟨fun d hd => ?_, by rw [hsky, skyOf_clear_iff], by rw [hsky, skyOf_obscured_iff], fun h => ?_, fun h => ?_, ?_,
      fun d rest hd => ?_, fun hd => ?_⟩
    · rw [hr] at hd
      obtain ⟨l, -, rfl⟩ := exists_layer_of_detection hd
      exact ⟨detect_cls l, detect_belowRidge l, detect_clipped l⟩
    · rw [hvv, hlimited, h]
      exact ⟨rfl, rfl⟩
    · rw [hvv, hlimited, if_neg h, decide_eq_false h]
      exact ⟨rfl, rfl⟩
    · rw [hr]
      exact decide_eq_true_iff
    · rw [hhaze, hd]
      rfl
    · rw [hhaze, hd]
      rfl

end Sys2Proof.Machine

/-! Characters, frames and their CRC on the station link (R138 to R143). -/

namespace Sys2Proof.Machine

/-! ### The CRC register -/

/-- A bit equal to the one that leaves the register only shifts it (R140). -/
theorem crcBit_shift (r : Word16) {j : Nat} (hj : j ≤ 15) {b : Bool} (hb : b = r.getLsbD (15 - j)) :
    crcBit (r <<< j) b = r <<< (j + 1) := by
  have hout : (r <<< j).getLsbD 15 = b := by
    rw [BitVec.getLsbD_shiftLeft, hb]
    simp [Nat.not_lt.mpr hj]
  rw [crcBit, hout, Bool.xor_self, if_neg (by decide), BitVec.shiftLeft_add]

/-- The high byte of the register, sent on, shifts it out (R140). -/
theorem crcByte_shift {r : Word16} {b : Byte} (h : ∀ i, i < 8 → b.getLsbD i = r.getLsbD (8 + i)) : crcByte r b = r <<< 8 := by
  have hzero : crcBit r (b.getLsbD 7) = r <<< 1 := by
    have hstep := crcBit_shift r (j := 0) (by decide) (h 7 (by decide))
    rwa [BitVec.shiftLeft_zero] at hstep
  have hbit : ∀ j, j ≤ 7 → crcBit (r <<< j) (b.getLsbD (7 - j)) = r <<< (j + 1) := fun j hj =>
    crcBit_shift r (by omega) ((h (7 - j) (by omega)).trans (congrArg _ (by omega)))
  simp only [crcByte, List.foldl_cons, List.foldl_nil, hzero]
  rw [hbit 1 (by decide), hbit 2 (by decide), hbit 3 (by decide), hbit 4 (by decide), hbit 5 (by decide), hbit 6 (by decide),
    hbit 7 (by decide)]

theorem byte_getLsbD (v i : Nat) (hi : i < 8) : (byte v).getLsbD i = v.testBit i := by
  rw [byte, BitVec.getLsbD_ofNat, decide_eq_true hi, Bool.true_and]

/-- Bytes followed by their CRC leave the register at 0 (R140). -/
theorem crcOf_append_crc (bs : List Byte) : crcOf (bs ++ be 2 (crcOf bs).toNat) = 0 := by
  obtain ⟨r, hr⟩ : ∃ r, r = crcOf bs := ⟨_, rfl⟩
  have hhigh : crcByte r (byte (r.toNat / 256)) = r <<< 8 := crcByte_shift fun i hi => by
    rw [byte_getLsbD _ _ hi, ← BitVec.testBit_toNat, show 256 = 2 ^ 8 from rfl, Nat.testBit_div_two_pow, Nat.add_comm]
  have hlow : crcByte (r <<< 8) (byte r.toNat) = r <<< 8 <<< 8 := crcByte_shift fun i hi => by
    rw [byte_getLsbD _ _ hi, BitVec.getLsbD_shiftLeft, ← BitVec.testBit_toNat, Nat.add_sub_cancel_left]
    simp [show 8 + i < 16 by omega]
  have hfold : crcOf (bs ++ be 2 r.toNat) = crcByte (crcByte r (byte (r.toNat / 256))) (byte r.toNat) := by
    rw [crcOf, List.foldl_append, be_two, ← crcOf, ← hr]
    rfl
  rw [← hr, hfold, hhigh, hlow, ← BitVec.shiftLeft_add]
  exact BitVec.shiftLeft_eq_zero (by decide)

/-! ### A frame, byte by byte -/

section
variable {p : Part}

/-- The bytes of a body up to its last, with the register over them (R141). -/
theorem Part.goodBytes_body (bs : List Byte) (got : List Byte) (crc : Word16) {len : Nat} (hlen : got.length + bs.length = len)
    (hne : bs ≠ []) : bs.foldl Part.goodByte (p.setLinkRx (.body len got crc)) =
      p.setLinkRx (.check (got ++ bs) none (bs.foldl crcByte crc)) := by
  induction bs generalizing got crc with
  | nil => exact absurd rfl hne
  | cons b rest ih =>
    rw [List.length_cons] at hlen
    have hstep : (p.setLinkRx (.body len got crc)).goodByte b = if len ≤ got.length + 1
        then p.setLinkRx (.check (got ++ [b]) none (crcByte crc b)) else p.setLinkRx (.body len (got ++ [b]) (crcByte crc b)) := rfl
    rw [List.foldl_cons, List.foldl_cons, hstep]
    cases rest with
    | nil =>
      rw [List.length_nil] at hlen
      rw [if_pos (by omega)]
      rfl
    | cons c more =>
      rw [List.length_cons] at hlen
      have happend : got ++ b :: c :: more = got ++ [b] ++ c :: more := by simp
      rw [if_neg (by omega), ih (got ++ [b]) (crcByte crc b) (by simp; omega) (by simp), happend]

/-- The length field opens the body (R141). -/
theorem Part.goodBytes_length {len : Nat} (h2 : 2 ≤ len) (hmax : len ≤ 2100) :
    (be 2 len).foldl Part.goodByte (p.setLinkRx (.length none 0xFFFF#16)) =
      p.setLinkRx (.body len [] ((be 2 len).foldl crcByte 0xFFFF#16)) := by
  have hvalue : (byte (len / 256)).toNat * 256 + (byte len).toNat = len := by
    rw [byte_toNat, byte_toNat]
    omega
  have hstep : (be 2 len).foldl Part.goodByte (p.setLinkRx (.length none 0xFFFF#16)) =
      (p.setLinkRx (.length (some (byte (len / 256))) (crcByte 0xFFFF#16 (byte (len / 256))))).judgeLength
        ((byte (len / 256)).toNat * 256 + (byte len).toNat) ((be 2 len).foldl crcByte 0xFFFF#16) := rfl
  rw [hstep, hvalue, Part.judgeLength, if_pos ⟨h2, hmax⟩]
  rfl

/-- A matching CRC delivers the frame (R143). -/
theorem Part.goodBytes_check (got : List Byte) (crc : Word16) :
    (be 2 crc.toNat).foldl Part.goodByte (p.setLinkRx (.check got none crc)) = (p.setLinkRx .hunt).acceptFrame (commandOf got) := by
  have hvalue : (byte (crc.toNat / 256)).toNat * 256 + (byte crc.toNat).toNat = crc.toNat := by
    have := crc.isLt
    rw [byte_toNat, byte_toNat]
    omega
  have hstep : (be 2 crc.toNat).foldl Part.goodByte (p.setLinkRx (.check got none crc)) =
      (p.setLinkRx (.check got (some (byte (crc.toNat / 256))) crc)).completeFrame got
        ((byte (crc.toNat / 256)).toNat * 256 + (byte crc.toNat).toNat) crc := rfl
  rw [hstep, hvalue, Part.completeFrame, if_pos rfl]
  rfl

/-- A frame that fits, taken in HUNT, is delivered whole (R141, R143). -/
theorem Part.goodBytes_frame (h : p.link.rx = .hunt) {f : OutFrame} (hfits : f.payload.length ≤ 2098) :
    f.bytes.foldl Part.goodByte p = p.acceptFrame { kind := f.kind, tag := f.tag, payload := f.payload } := by
  have hmarker : p.goodByte marker = p.setLinkRx (.length none 0xFFFF#16) := by
    simp only [Part.goodByte, h, if_true]
  have hback : p.setLinkRx .hunt = p := by
    rw [← h]
    rfl
  have hbytes : f.bytes = marker :: (be 2 (f.payload.length + 2) ++ (f.kind :: f.tag :: f.payload ++
      be 2 (crcOf (be 2 (f.payload.length + 2) ++ f.kind :: f.tag :: f.payload)).toNat)) := by
    rw [← List.append_assoc]
    rfl
  have hcrc : (f.kind :: f.tag :: f.payload).foldl crcByte ((be 2 (f.payload.length + 2)).foldl crcByte 0xFFFF#16) =
      crcOf (be 2 (f.payload.length + 2) ++ f.kind :: f.tag :: f.payload) := List.foldl_append.symm
  rw [hbytes, List.foldl_cons, hmarker, List.foldl_append, Part.goodBytes_length (by omega) (by omega), List.foldl_append,
    Part.goodBytes_body _ _ _ (by simp) (by simp), hcrc, List.nil_append, Part.goodBytes_check, hback]
  rfl
end

/-! ### Characters -/

theorem dataBits_of_getElem? {b : Byte} {bits : List Bool} (hlen : bits.length = 8) (h : ∀ i < 8, bits[i]? = some (b.getLsbD i)) :
    bits = dataBits b := by
  refine List.ext_getElem? fun i => ?_
  by_cases hi : i < 8
  · rw [h i hi, dataBits, List.getElem?_map, List.getElem?_range hi]
    rfl
  · rw [List.getElem?_eq_none (by omega), List.getElem?_eq_none (by rw [dataBits, List.length_map, List.length_range]; omega)]

theorem receiveFrom_flatMap (bs : List Byte) : receiveFrom .idle (bs.flatMap characterBits) = bs.map .good := by
  induction bs with
  | nil => rfl
  | cons b rest ih => rw [List.flatMap_cons, receiveFrom_characterBits, ih, List.map_cons]

/-- Settles O52: the register by crcOf_append_crc, a frame by goodBytes_frame, its levels by the laws of the characters. -/
theorem frameRoundTrip : Obligations.FrameRoundTrip := by
  have hframe : ∀ (p : Part) (f : OutFrame), p.link.rx = .hunt → f.payload.length ≤ 2098 →
      (f.bytes.map LineByte.good).foldl Part.takeByte p = p.acceptFrame { kind := f.kind, tag := f.tag, payload := f.payload } := by
    intro p f h hfits
    rw [List.foldl_map]
    exact Part.goodBytes_frame h hfits
  refine ⟨by decide +kernel, crcOf_append_crc, hframe, fun b => rfl, fun n b bits rest stop hlen hbits => ?_, fun n => ?_, fun p f n h hfits => ?_⟩
  · have hidle := receiveFrom_idle_mark n (space :: (bits ++ stop :: rest))
    have hbyte : lineByteOf bits stop = if stop = true then .good b else .framingError := by
      rw [lineByteOf, dataBits_of_getElem? hlen hbits, byteOfBits_dataBits]
      rfl
    rw [receiveFrom_character bits rest stop hlen, hbyte] at hidle
    exact hidle
  · have hheld := receiveFrom_held n []
    rw [List.append_nil, receiveFrom, List.append_nil] at hheld
    exact hheld
  · have hlevels : receiveFrom .idle (List.replicate n true ++ f.levels) = f.bytes.map .good :=
      (receiveFrom_idle_mark n f.levels).trans (receiveFrom_flatMap f.bytes)
    rw [Part.takeLevels, hlevels]
    exact hframe p f h hfits

end Sys2Proof.Machine
